-- ==== Sys2Proof/Word.lean ====
section
/-! DEFINITION. The word types of the CORE (00_scope.md R8, R10): a byte is 8 bits, a word (an address) is 16 bits,
a colour index is 2 bits. Their arithmetic is `BitVec`'s, which wraps (R11). -/

namespace Sys2Proof

/-- A register, a bus byte, an opcode (R8: "data width 8 bits"). -/
abbrev Byte := BitVec 8

/-- A 16-bit register, an address (R8: "address width 16 bits"). -/
abbrev Word := BitVec 16

/-- One pixel of the renderer's buffer (R8: "2-bit colour index each"). -/
abbrev ColourIndex := BitVec 2

end Sys2Proof
end

