-- ==== Sys2Proof/Syntax.lean ====
section
/-! DEFINITION. The names of the register file, the flags, the conditions (10_state.md, 30_encoding.md), and `Instr`: one
constructor per row of spec/opcode_table.json, in the spec's order of families. A constructor is the row's mnemonic in
camel case: `AtHl` is the memory operand (HL), `N`, `Nn` an 8-bit and a 16-bit immediate, a condition or a register
closes the name (`jrNz`, `ldBC` is LD B,C, `ldBcNn` is LD BC,nn). -/

namespace Sys2Proof

/-- The eight 8-bit registers of R20. -/
inductive Reg8 where
  | a | f | b | c | d | e | h | l
deriving DecidableEq, Repr

/-- The 16-bit registers of R12: the four pairs and SP. -/
inductive Reg16 where
  | af | bc | de | hl | sp
deriving DecidableEq, Repr

/-- The four flags of R24. -/
inductive Flag where
  | z | n | h | c
deriving DecidableEq, Repr

/-- The conditions of R65. -/
inductive Cond where
  | nz | z | nc | c
deriving DecidableEq, Repr

/-- Which opcode table a byte was looked up in (R30). -/
inductive OpTable where
  | primary
  | prefixed
deriving DecidableEq, Repr

/-- The instructions: one constructor per row of spec/opcode_table.json (277 rows). -/
inductive Instr where
  -- NOP, STOP, HALT and the interrupt-enable toggle (46_control_stubs.md)
  | nop                      -- NOP
  | stop                     -- STOP
  | halt                     -- HALT
  | di                       -- DI
  | ei                       -- EI
  -- 8-bit and 16-bit loads (40_loads.md)
  | ldBcNn (nn : Word)       -- LD BC,nn
  | ldDeNn (nn : Word)       -- LD DE,nn
  | ldHlNn (nn : Word)       -- LD HL,nn
  | ldSpNn (nn : Word)       -- LD SP,nn
  | ldAtBcA                  -- LD (BC),A
  | ldAtDeA                  -- LD (DE),A
  | ldAtHlIncA               -- LD (HL+),A
  | ldAtHlDecA               -- LD (HL-),A
  | ldBN (n : Byte)          -- LD B,n
  | ldCN (n : Byte)          -- LD C,n
  | ldDN (n : Byte)          -- LD D,n
  | ldEN (n : Byte)          -- LD E,n
  | ldHN (n : Byte)          -- LD H,n
  | ldLN (n : Byte)          -- LD L,n
  | ldAN (n : Byte)          -- LD A,n
  | ldBB                     -- LD B,B
  | ldBC                     -- LD B,C
  | ldBD                     -- LD B,D
  | ldBE                     -- LD B,E
  | ldBH                     -- LD B,H
  | ldBL                     -- LD B,L
  | ldBAtHl                  -- LD B,(HL)
  | ldBA                     -- LD B,A
  | ldCB                     -- LD C,B
  | ldCC                     -- LD C,C
  | ldCD                     -- LD C,D
  | ldCE                     -- LD C,E
  | ldCH                     -- LD C,H
  | ldCL                     -- LD C,L
  | ldCAtHl                  -- LD C,(HL)
  | ldCA                     -- LD C,A
  | ldDB                     -- LD D,B
  | ldDC                     -- LD D,C
  | ldDD                     -- LD D,D
  | ldDE                     -- LD D,E
  | ldDH                     -- LD D,H
  | ldDL                     -- LD D,L
  | ldDAtHl                  -- LD D,(HL)
  | ldDA                     -- LD D,A
  | ldEB                     -- LD E,B
  | ldEC                     -- LD E,C
  | ldED                     -- LD E,D
  | ldEE                     -- LD E,E
  | ldEH                     -- LD E,H
  | ldEL                     -- LD E,L
  | ldEAtHl                  -- LD E,(HL)
  | ldEA                     -- LD E,A
  | ldHB                     -- LD H,B
  | ldHC                     -- LD H,C
  | ldHD                     -- LD H,D
  | ldHE                     -- LD H,E
  | ldHH                     -- LD H,H
  | ldHL                     -- LD H,L
  | ldHAtHl                  -- LD H,(HL)
  | ldHA                     -- LD H,A
  | ldLB                     -- LD L,B
  | ldLC                     -- LD L,C
  | ldLD                     -- LD L,D
  | ldLE                     -- LD L,E
  | ldLH                     -- LD L,H
  | ldLL                     -- LD L,L
  | ldLAtHl                  -- LD L,(HL)
  | ldLA                     -- LD L,A
  | ldAtHlB                  -- LD (HL),B
  | ldAtHlC                  -- LD (HL),C
  | ldAtHlD                  -- LD (HL),D
  | ldAtHlE                  -- LD (HL),E
  | ldAtHlH                  -- LD (HL),H
  | ldAtHlL                  -- LD (HL),L
  | ldAtHlA                  -- LD (HL),A
  | ldAB                     -- LD A,B
  | ldAC                     -- LD A,C
  | ldAD                     -- LD A,D
  | ldAE                     -- LD A,E
  | ldAH                     -- LD A,H
  | ldAL                     -- LD A,L
  | ldAAtHl                  -- LD A,(HL)
  | ldAA                     -- LD A,A
  | ldhAtNA (n : Byte)       -- LDH (n),A
  | ldhAAtN (n : Byte)       -- LDH A,(n)
  | ldAtNnA (nn : Word)      -- LD (nn),A
  | ldAAtNn (nn : Word)      -- LD A,(nn)
  | ldSpHl                   -- LD SP,HL
  -- 8-bit arithmetic and logic (41_alu8.md)
  | incB                     -- INC B
  | decB                     -- DEC B
  | incC                     -- INC C
  | decC                     -- DEC C
  | incD                     -- INC D
  | decD                     -- DEC D
  | incE                     -- INC E
  | decE                     -- DEC E
  | incH                     -- INC H
  | decH                     -- DEC H
  | incL                     -- INC L
  | decL                     -- DEC L
  | incA                     -- INC A
  | decA                     -- DEC A
  | addB                     -- ADD A,B
  | addC                     -- ADD A,C
  | addD                     -- ADD A,D
  | addE                     -- ADD A,E
  | addH                     -- ADD A,H
  | addL                     -- ADD A,L
  | addAtHl                  -- ADD A,(HL)
  | addA                     -- ADD A,A
  | addN (n : Byte)          -- ADD A,n
  | subB                     -- SUB B
  | subC                     -- SUB C
  | subD                     -- SUB D
  | subE                     -- SUB E
  | subH                     -- SUB H
  | subL                     -- SUB L
  | subAtHl                  -- SUB (HL)
  | subA                     -- SUB A
  | subN (n : Byte)          -- SUB n
  | andB                     -- AND B
  | andC                     -- AND C
  | andD                     -- AND D
  | andE                     -- AND E
  | andH                     -- AND H
  | andL                     -- AND L
  | andAtHl                  -- AND (HL)
  | andA                     -- AND A
  | andN (n : Byte)          -- AND n
  | xorB                     -- XOR B
  | xorC                     -- XOR C
  | xorD                     -- XOR D
  | xorE                     -- XOR E
  | xorH                     -- XOR H
  | xorL                     -- XOR L
  | xorAtHl                  -- XOR (HL)
  | xorA                     -- XOR A
  | xorN (n : Byte)          -- XOR n
  | orB                      -- OR B
  | orC                      -- OR C
  | orD                      -- OR D
  | orE                      -- OR E
  | orH                      -- OR H
  | orL                      -- OR L
  | orAtHl                   -- OR (HL)
  | orA                      -- OR A
  | orN (n : Byte)           -- OR n
  | cpB                      -- CP B
  | cpC                      -- CP C
  | cpD                      -- CP D
  | cpE                      -- CP E
  | cpH                      -- CP H
  | cpL                      -- CP L
  | cpAtHl                   -- CP (HL)
  | cpA                      -- CP A
  | cpN (n : Byte)           -- CP n
  -- 16-bit arithmetic (42_alu16.md)
  | incBc                    -- INC BC
  | decBc                    -- DEC BC
  | addHlBc                  -- ADD HL,BC
  | incDe                    -- INC DE
  | decDe                    -- DEC DE
  | addHlDe                  -- ADD HL,DE
  | incHl                    -- INC HL
  | decHl                    -- DEC HL
  | addHlHl                  -- ADD HL,HL
  | incSp                    -- INC SP
  | decSp                    -- DEC SP
  | addHlSp                  -- ADD HL,SP
  -- jumps, calls, returns, restarts (43_control_transfer.md)
  | jr (e : Byte)            -- JR e
  | jrNz (e : Byte)          -- JR NZ,e
  | jrZ (e : Byte)           -- JR Z,e
  | jrNc (e : Byte)          -- JR NC,e
  | jrC (e : Byte)           -- JR C,e
  | retNz                    -- RET NZ
  | jpNz (nn : Word)         -- JP NZ,nn
  | callNz (nn : Word)       -- CALL NZ,nn
  | retZ                     -- RET Z
  | jpZ (nn : Word)          -- JP Z,nn
  | callZ (nn : Word)        -- CALL Z,nn
  | retNc                    -- RET NC
  | jpNc (nn : Word)         -- JP NC,nn
  | callNc (nn : Word)       -- CALL NC,nn
  | retC                     -- RET C
  | jpC (nn : Word)          -- JP C,nn
  | callC (nn : Word)        -- CALL C,nn
  | jp (nn : Word)           -- JP nn
  | ret                      -- RET
  | call (nn : Word)         -- CALL nn
  | rst00                    -- RST 0x00
  | rst08                    -- RST 0x08
  | rst10                    -- RST 0x10
  | rst18                    -- RST 0x18
  | rst20                    -- RST 0x20
  | rst28                    -- RST 0x28
  | rst30                    -- RST 0x30
  | rst38                    -- RST 0x38
  -- stack (44_stack.md)
  | popBc                    -- POP BC
  | pushBc                   -- PUSH BC
  | popDe                    -- POP DE
  | pushDe                   -- PUSH DE
  | popHl                    -- POP HL
  | pushHl                   -- PUSH HL
  | popAf                    -- POP AF
  | pushAf                   -- PUSH AF
  -- the prefix and the prefixed table (45_prefixed_bitops.md)
  | prefixCb (sub : Byte)    -- PREFIX CB
  | swapB                    -- SWAP B
  | swapC                    -- SWAP C
  | swapD                    -- SWAP D
  | swapE                    -- SWAP E
  | swapH                    -- SWAP H
  | swapL                    -- SWAP L
  | swapAtHl                 -- SWAP (HL)
  | swapA                    -- SWAP A
  | res0B                    -- RES 0,B
  | res0C                    -- RES 0,C
  | res0D                    -- RES 0,D
  | res0E                    -- RES 0,E
  | res0H                    -- RES 0,H
  | res0L                    -- RES 0,L
  | res0AtHl                 -- RES 0,(HL)
  | res0A                    -- RES 0,A
  | res1B                    -- RES 1,B
  | res1C                    -- RES 1,C
  | res1D                    -- RES 1,D
  | res1E                    -- RES 1,E
  | res1H                    -- RES 1,H
  | res1L                    -- RES 1,L
  | res1AtHl                 -- RES 1,(HL)
  | res1A                    -- RES 1,A
  | res2B                    -- RES 2,B
  | res2C                    -- RES 2,C
  | res2D                    -- RES 2,D
  | res2E                    -- RES 2,E
  | res2H                    -- RES 2,H
  | res2L                    -- RES 2,L
  | res2AtHl                 -- RES 2,(HL)
  | res2A                    -- RES 2,A
  | res3B                    -- RES 3,B
  | res3C                    -- RES 3,C
  | res3D                    -- RES 3,D
  | res3E                    -- RES 3,E
  | res3H                    -- RES 3,H
  | res3L                    -- RES 3,L
  | res3AtHl                 -- RES 3,(HL)
  | res3A                    -- RES 3,A
  | res4B                    -- RES 4,B
  | res4C                    -- RES 4,C
  | res4D                    -- RES 4,D
  | res4E                    -- RES 4,E
  | res4H                    -- RES 4,H
  | res4L                    -- RES 4,L
  | res4AtHl                 -- RES 4,(HL)
  | res4A                    -- RES 4,A
  | res5B                    -- RES 5,B
  | res5C                    -- RES 5,C
  | res5D                    -- RES 5,D
  | res5E                    -- RES 5,E
  | res5H                    -- RES 5,H
  | res5L                    -- RES 5,L
  | res5AtHl                 -- RES 5,(HL)
  | res5A                    -- RES 5,A
  | res6B                    -- RES 6,B
  | res6C                    -- RES 6,C
  | res6D                    -- RES 6,D
  | res6E                    -- RES 6,E
  | res6H                    -- RES 6,H
  | res6L                    -- RES 6,L
  | res6AtHl                 -- RES 6,(HL)
  | res6A                    -- RES 6,A
  | res7B                    -- RES 7,B
  | res7C                    -- RES 7,C
  | res7D                    -- RES 7,D
  | res7E                    -- RES 7,E
  | res7H                    -- RES 7,H
  | res7L                    -- RES 7,L
  | res7AtHl                 -- RES 7,(HL)
  | res7A                    -- RES 7,A
deriving DecidableEq, Repr

end Sys2Proof
end

