-- ==== Sys2Proof/WellFormed.lean ====
section
/-! DEFINITION. Which terms of `Instr` stand for an instruction the decoder can answer. R75: "Operand fields are never
checked beyond the table lookup: every field combination of a member row is legal", and the immediates are bit vectors of
the width the encoding gives them, so ONE check is left: `prefixCb sub` stands for the 0xCB prefix before a sub-opcode that
is NOT a member of the prefixed table, since a member's two bytes are that member's own constructor (log 2). -/

namespace Sys2Proof

/-- R67: the members of the prefixed table are SWAP s (0x30 to 0x37) and RES b,s (0x80 to 0xBF). -/
def isPrefixedMember (sub : Byte) : Bool :=
  (decide (0x30 ≤ sub) && decide (sub ≤ 0x37)) || (decide (0x80 ≤ sub) && decide (sub ≤ 0xBF))

/-- Every constructor but `prefixCb` is well formed whatever its immediate (R75). -/
def Instr.wf : Instr → Bool
  | .prefixCb sub => !isPrefixedMember sub
  | _ => true

end Sys2Proof
end

