-- ==== Sys2Proof/Decode.lean ====
section
/-! DEFINITION. The decoder (30_encoding.md R60 to R75) and, after it, the encoder. The decoder's tables are the maps of R73
and R74, row by row (a row is a high nibble, a cell a low nibble); the encoder is written from the rules' Encoding lines,
opcode by opcode. Here too are the byte-order and bit-field helpers (R10, R11, R60). -/

namespace Sys2Proof

/-! ## Bit fields and byte order -/

/-- R10: "`hi : lo` (two bytes) is the word `(hi << 8) | lo`". -/
def word (hi lo : Byte) : Word := hi ++ lo

/-- `v[15:8]` (R12). -/
def hiByte (v : Word) : Byte := v.extractLsb' 8 8

/-- `v[7:0]` (R12). -/
def loByte (v : Word) : Byte := v.extractLsb' 0 8

/-- R11: "`sext_16(v)` sign-extends a byte to a word". -/
def sext16 (v : Byte) : Word := v.signExtend 16

/-- R11: "`zext_16(v)` is `v` as a word". -/
def zext16 (v : Byte) : Word := v.zeroExtend 16

/-- The fields of an opcode byte (R60): x = op[7:6], y = op[5:3], z = op[2:0]. -/
def fieldX (op : Byte) : BitVec 2 := op.extractLsb' 6 2
def fieldY (op : Byte) : BitVec 3 := op.extractLsb' 3 3
def fieldZ (op : Byte) : BitVec 3 := op.extractLsb' 0 3

/-! ## The prefixed table (R74)

A cell marked `·` there is `none` here. -/

/-- Row 3x: SWAP in its first half. -/
def prefixedRow3 : List (Option Instr) :=
  [some .swapB, some .swapC, some .swapD, some .swapE, some .swapH, some .swapL, some .swapAtHl, some .swapA,
   none, none, none, none, none, none, none, none]

/-- Row 8x: RES. -/
def prefixedRow8 : List (Option Instr) :=
  [some .res0B, some .res0C, some .res0D, some .res0E, some .res0H, some .res0L, some .res0AtHl, some .res0A,
   some .res1B, some .res1C, some .res1D, some .res1E, some .res1H, some .res1L, some .res1AtHl, some .res1A]

/-- Row 9x: RES. -/
def prefixedRow9 : List (Option Instr) :=
  [some .res2B, some .res2C, some .res2D, some .res2E, some .res2H, some .res2L, some .res2AtHl, some .res2A,
   some .res3B, some .res3C, some .res3D, some .res3E, some .res3H, some .res3L, some .res3AtHl, some .res3A]

/-- Row Ax: RES. -/
def prefixedRowA : List (Option Instr) :=
  [some .res4B, some .res4C, some .res4D, some .res4E, some .res4H, some .res4L, some .res4AtHl, some .res4A,
   some .res5B, some .res5C, some .res5D, some .res5E, some .res5H, some .res5L, some .res5AtHl, some .res5A]

/-- Row Bx: RES. -/
def prefixedRowB : List (Option Instr) :=
  [some .res6B, some .res6C, some .res6D, some .res6E, some .res6H, some .res6L, some .res6AtHl, some .res6A,
   some .res7B, some .res7C, some .res7D, some .res7E, some .res7H, some .res7L, some .res7AtHl, some .res7A]

/-- The rows of R74, 0x to Fx; the empty ones hold no member. -/
def prefixedRows : List (List (Option Instr)) :=
  [[], [], [], prefixedRow3, [], [], [], [], prefixedRow8, prefixedRow9, prefixedRowA, prefixedRowB, [], [], [], []]

/-- The sub-opcode's row of the prefixed table, `none` for the 184 that are not members (R67). -/
def prefixedMember (sub : Byte) : Option Instr :=
  ((prefixedRows.getD (sub.toNat / 16) []).getD (sub.toNat % 16) none)

/-- R182: after 0xCB the member its sub-opcode names, and for any other the prefix itself with that sub-opcode, whose rule
raises the decode failure (log 2). -/
def decodePrefixed (sub : Byte) : Instr :=
  match prefixedMember sub with
  | some i => i
  | none => .prefixCb sub

/-! ## The primary table (R73)

`b1` and `b2` are the two bytes after the opcode: `n` and `e` are `b1`, `nn` is `b2 : b1` (R62: "low byte first"). -/

/-- Row 0x of R73. -/
def primaryRow0 (b1 b2 : Byte) : List (Option Instr) :=
  [some .nop, some (.ldBcNn (word b2 b1)), some .ldAtBcA, some .incBc,
   some .incB, some .decB, some (.ldBN b1), none,
   none, some .addHlBc, none, some .decBc,
   some .incC, some .decC, some (.ldCN b1), none]

/-- Row 1x of R73. -/
def primaryRow1 (b1 b2 : Byte) : List (Option Instr) :=
  [some .stop, some (.ldDeNn (word b2 b1)), some .ldAtDeA, some .incDe,
   some .incD, some .decD, some (.ldDN b1), none,
   some (.jr b1), some .addHlDe, none, some .decDe,
   some .incE, some .decE, some (.ldEN b1), none]

/-- Row 2x of R73. -/
def primaryRow2 (b1 b2 : Byte) : List (Option Instr) :=
  [some (.jrNz b1), some (.ldHlNn (word b2 b1)), some .ldAtHlIncA, some .incHl,
   some .incH, some .decH, some (.ldHN b1), none,
   some (.jrZ b1), some .addHlHl, none, some .decHl,
   some .incL, some .decL, some (.ldLN b1), none]

/-- Row 3x of R73. -/
def primaryRow3 (b1 b2 : Byte) : List (Option Instr) :=
  [some (.jrNc b1), some (.ldSpNn (word b2 b1)), some .ldAtHlDecA, some .incSp, none, none, none, none,
   some (.jrC b1), some .addHlSp, none, some .decSp, some .incA, some .decA, some (.ldAN b1), none]

/-- Row 4x of R73. -/
def primaryRow4 (_b1 _b2 : Byte) : List (Option Instr) :=
  [some .ldBB, some .ldBC, some .ldBD, some .ldBE, some .ldBH, some .ldBL, some .ldBAtHl, some .ldBA,
   some .ldCB, some .ldCC, some .ldCD, some .ldCE, some .ldCH, some .ldCL, some .ldCAtHl, some .ldCA]

/-- Row 5x of R73. -/
def primaryRow5 (_b1 _b2 : Byte) : List (Option Instr) :=
  [some .ldDB, some .ldDC, some .ldDD, some .ldDE, some .ldDH, some .ldDL, some .ldDAtHl, some .ldDA,
   some .ldEB, some .ldEC, some .ldED, some .ldEE, some .ldEH, some .ldEL, some .ldEAtHl, some .ldEA]

/-- Row 6x of R73. -/
def primaryRow6 (_b1 _b2 : Byte) : List (Option Instr) :=
  [some .ldHB, some .ldHC, some .ldHD, some .ldHE, some .ldHH, some .ldHL, some .ldHAtHl, some .ldHA,
   some .ldLB, some .ldLC, some .ldLD, some .ldLE, some .ldLH, some .ldLL, some .ldLAtHl, some .ldLA]

/-- Row 7x of R73. -/
def primaryRow7 (_b1 _b2 : Byte) : List (Option Instr) :=
  [some .ldAtHlB, some .ldAtHlC, some .ldAtHlD, some .ldAtHlE,
   some .ldAtHlH, some .ldAtHlL, some .halt, some .ldAtHlA,
   some .ldAB, some .ldAC, some .ldAD, some .ldAE,
   some .ldAH, some .ldAL, some .ldAAtHl, some .ldAA]

/-- Row 8x of R73. -/
def primaryRow8 (_b1 _b2 : Byte) : List (Option Instr) :=
  [some .addB, some .addC, some .addD, some .addE, some .addH, some .addL, some .addAtHl, some .addA,
   none, none, none, none, none, none, none, none]

/-- Row 9x of R73. -/
def primaryRow9 (_b1 _b2 : Byte) : List (Option Instr) :=
  [some .subB, some .subC, some .subD, some .subE, some .subH, some .subL, some .subAtHl, some .subA,
   none, none, none, none, none, none, none, none]

/-- Row Ax of R73. -/
def primaryRowA (_b1 _b2 : Byte) : List (Option Instr) :=
  [some .andB, some .andC, some .andD, some .andE, some .andH, some .andL, some .andAtHl, some .andA,
   some .xorB, some .xorC, some .xorD, some .xorE, some .xorH, some .xorL, some .xorAtHl, some .xorA]

/-- Row Bx of R73. -/
def primaryRowB (_b1 _b2 : Byte) : List (Option Instr) :=
  [some .orB, some .orC, some .orD, some .orE, some .orH, some .orL, some .orAtHl, some .orA,
   some .cpB, some .cpC, some .cpD, some .cpE, some .cpH, some .cpL, some .cpAtHl, some .cpA]

/-- Row Cx of R73. -/
def primaryRowC (b1 b2 : Byte) : List (Option Instr) :=
  [some .retNz, some .popBc, some (.jpNz (word b2 b1)), some (.jp (word b2 b1)),
   some (.callNz (word b2 b1)), some .pushBc, some (.addN b1), some .rst00,
   some .retZ, some .ret, some (.jpZ (word b2 b1)), some (decodePrefixed b1),
   some (.callZ (word b2 b1)), some (.call (word b2 b1)), none, some .rst08]

/-- Row Dx of R73. -/
def primaryRowD (b1 b2 : Byte) : List (Option Instr) :=
  [some .retNc, some .popDe, some (.jpNc (word b2 b1)), none,
   some (.callNc (word b2 b1)), some .pushDe, some (.subN b1), some .rst10,
   some .retC, none, some (.jpC (word b2 b1)), none,
   some (.callC (word b2 b1)), none, none, some .rst18]

/-- Row Ex of R73. -/
def primaryRowE (b1 b2 : Byte) : List (Option Instr) :=
  [some (.ldhAtNA b1), some .popHl, none, none, none, some .pushHl, some (.andN b1), some .rst20,
   none, none, some (.ldAtNnA (word b2 b1)), none, none, none, some (.xorN b1), some .rst28]

/-- Row Fx of R73. -/
def primaryRowF (b1 b2 : Byte) : List (Option Instr) :=
  [some (.ldhAAtN b1), some .popAf, none, some .di, none, some .pushAf, some (.orN b1), some .rst30,
   none, some .ldSpHl, some (.ldAAtNn (word b2 b1)), some .ei, none, none, some (.cpN b1), some .rst38]

def primaryRows (b1 b2 : Byte) : List (List (Option Instr)) :=
  [primaryRow0 b1 b2, primaryRow1 b1 b2, primaryRow2 b1 b2, primaryRow3 b1 b2,
   primaryRow4 b1 b2, primaryRow5 b1 b2, primaryRow6 b1 b2, primaryRow7 b1 b2,
   primaryRow8 b1 b2, primaryRow9 b1 b2, primaryRowA b1 b2, primaryRowB b1 b2,
   primaryRowC b1 b2, primaryRowD b1 b2, primaryRowE b1 b2, primaryRowF b1 b2]

/-- R75, the decode procedure on an opcode byte and the two bytes after it, total over bytes: `none` is a byte that is not
in the primary table (51 of them, R66). An instruction shorter than three bytes does not look at the rest. -/
def decodeWindow (op b1 b2 : Byte) : Option Instr :=
  ((primaryRows b1 b2).getD (op.toNat / 16) []).getD (op.toNat % 16) none

/-- The opcodes of format O3 (R61). -/
def opcodesOfThreeBytes : List Byte :=
  [0x01, 0x11, 0x21, 0x31, 0xC2, 0xC3, 0xC4, 0xCA,
   0xCC, 0xCD, 0xD2, 0xD4, 0xDA, 0xDC, 0xEA, 0xFA]

/-- The opcodes of the formats O2n and O2e, and the prefix 0xCB (format P2, R61). -/
def opcodesOfTwoBytes : List Byte :=
  [0x06, 0x0E, 0x16, 0x18, 0x1E, 0x20, 0x26, 0x28,
   0x2E, 0x30, 0x38, 0x3E, 0xC6, 0xCB, 0xD6, 0xE0,
   0xE6, 0xEE, 0xF0, 0xF6, 0xFE]

/-- R61: "The length of every instruction is decided by its first byte alone (and is 2 for 0xCB)". -/
def opcodeLength (op : Byte) : Nat :=
  if op ∈ opcodesOfThreeBytes then 3 else if op ∈ opcodesOfTwoBytes then 2 else 1

/-- Why a byte string does not begin with an instruction. -/
inductive DecodeError where
  /-- the first byte is not in the primary table (R66) -/
  | notInPrimaryTable (op : Byte)
  /-- the string ends inside the instruction (never so for a fetch: addresses wrap, R44) -/
  | truncated
deriving DecidableEq, Repr

/-- The decoder on a byte string: the first instruction and the bytes after it. -/
def decode : List Byte → Except DecodeError (Instr × List Byte)
  | [] => .error .truncated
  | op :: rest =>
    if rest.length + 1 < opcodeLength op then .error .truncated
    else
      match decodeWindow op (rest.getD 0 0) (rest.getD 1 0) with
      | some i => .ok (i, rest.drop (opcodeLength op - 1))
      | none => .error (.notInPrimaryTable op)

/-! ## The host's words

spec/opcode_table.json gives a primary row 8 bits (its opcode, the first byte) and a prefixed row 16 bits, of which
bits 15..8 are the FIRST byte 0xCB (`"match": "0xCB30"`, `"encoding": "11001011 00110000"`): log 1. -/

/-- The bytes, first byte first and zeros after them, of an instruction that the table numbers as `w` in `nbits` bits. -/
def tableBytes (nbits w : Nat) : Byte × Byte × Byte :=
  let v := w % 2 ^ nbits
  let b0 := BitVec.ofNat 8 v
  let b1 := BitVec.ofNat 8 (v / 0x100)
  let b2 := BitVec.ofNat 8 (v / 0x10000)
  if b1 = 0xCB ∧ b2 = 0 then (b1, b0, 0) else (b0, b1, b2)

/-- What the decoder reads from a row's word. -/
def decodeTableWord (nbits w : Nat) : Option Instr :=
  let (b0, b1, b2) := tableBytes nbits w
  decodeWindow b0 b1 b2

/-! ## The encoder -/

/-- The bytes of an instruction, first byte first (the Encoding line of each rule). -/
def encode : Instr → List Byte
  | .nop => [0x00]
  | .stop => [0x10]
  | .halt => [0x76]
  | .di => [0xF3]
  | .ei => [0xFB]
  | .ldBcNn nn => [0x01, loByte nn, hiByte nn]
  | .ldDeNn nn => [0x11, loByte nn, hiByte nn]
  | .ldHlNn nn => [0x21, loByte nn, hiByte nn]
  | .ldSpNn nn => [0x31, loByte nn, hiByte nn]
  | .ldAtBcA => [0x02]
  | .ldAtDeA => [0x12]
  | .ldAtHlIncA => [0x22]
  | .ldAtHlDecA => [0x32]
  | .ldBN n => [0x06, n]
  | .ldCN n => [0x0E, n]
  | .ldDN n => [0x16, n]
  | .ldEN n => [0x1E, n]
  | .ldHN n => [0x26, n]
  | .ldLN n => [0x2E, n]
  | .ldAN n => [0x3E, n]
  | .ldBB => [0x40]
  | .ldBC => [0x41]
  | .ldBD => [0x42]
  | .ldBE => [0x43]
  | .ldBH => [0x44]
  | .ldBL => [0x45]
  | .ldBAtHl => [0x46]
  | .ldBA => [0x47]
  | .ldCB => [0x48]
  | .ldCC => [0x49]
  | .ldCD => [0x4A]
  | .ldCE => [0x4B]
  | .ldCH => [0x4C]
  | .ldCL => [0x4D]
  | .ldCAtHl => [0x4E]
  | .ldCA => [0x4F]
  | .ldDB => [0x50]
  | .ldDC => [0x51]
  | .ldDD => [0x52]
  | .ldDE => [0x53]
  | .ldDH => [0x54]
  | .ldDL => [0x55]
  | .ldDAtHl => [0x56]
  | .ldDA => [0x57]
  | .ldEB => [0x58]
  | .ldEC => [0x59]
  | .ldED => [0x5A]
  | .ldEE => [0x5B]
  | .ldEH => [0x5C]
  | .ldEL => [0x5D]
  | .ldEAtHl => [0x5E]
  | .ldEA => [0x5F]
  | .ldHB => [0x60]
  | .ldHC => [0x61]
  | .ldHD => [0x62]
  | .ldHE => [0x63]
  | .ldHH => [0x64]
  | .ldHL => [0x65]
  | .ldHAtHl => [0x66]
  | .ldHA => [0x67]
  | .ldLB => [0x68]
  | .ldLC => [0x69]
  | .ldLD => [0x6A]
  | .ldLE => [0x6B]
  | .ldLH => [0x6C]
  | .ldLL => [0x6D]
  | .ldLAtHl => [0x6E]
  | .ldLA => [0x6F]
  | .ldAtHlB => [0x70]
  | .ldAtHlC => [0x71]
  | .ldAtHlD => [0x72]
  | .ldAtHlE => [0x73]
  | .ldAtHlH => [0x74]
  | .ldAtHlL => [0x75]
  | .ldAtHlA => [0x77]
  | .ldAB => [0x78]
  | .ldAC => [0x79]
  | .ldAD => [0x7A]
  | .ldAE => [0x7B]
  | .ldAH => [0x7C]
  | .ldAL => [0x7D]
  | .ldAAtHl => [0x7E]
  | .ldAA => [0x7F]
  | .ldhAtNA n => [0xE0, n]
  | .ldhAAtN n => [0xF0, n]
  | .ldAtNnA nn => [0xEA, loByte nn, hiByte nn]
  | .ldAAtNn nn => [0xFA, loByte nn, hiByte nn]
  | .ldSpHl => [0xF9]
  | .incB => [0x04]
  | .decB => [0x05]
  | .incC => [0x0C]
  | .decC => [0x0D]
  | .incD => [0x14]
  | .decD => [0x15]
  | .incE => [0x1C]
  | .decE => [0x1D]
  | .incH => [0x24]
  | .decH => [0x25]
  | .incL => [0x2C]
  | .decL => [0x2D]
  | .incA => [0x3C]
  | .decA => [0x3D]
  | .addB => [0x80]
  | .addC => [0x81]
  | .addD => [0x82]
  | .addE => [0x83]
  | .addH => [0x84]
  | .addL => [0x85]
  | .addAtHl => [0x86]
  | .addA => [0x87]
  | .addN n => [0xC6, n]
  | .subB => [0x90]
  | .subC => [0x91]
  | .subD => [0x92]
  | .subE => [0x93]
  | .subH => [0x94]
  | .subL => [0x95]
  | .subAtHl => [0x96]
  | .subA => [0x97]
  | .subN n => [0xD6, n]
  | .andB => [0xA0]
  | .andC => [0xA1]
  | .andD => [0xA2]
  | .andE => [0xA3]
  | .andH => [0xA4]
  | .andL => [0xA5]
  | .andAtHl => [0xA6]
  | .andA => [0xA7]
  | .andN n => [0xE6, n]
  | .xorB => [0xA8]
  | .xorC => [0xA9]
  | .xorD => [0xAA]
  | .xorE => [0xAB]
  | .xorH => [0xAC]
  | .xorL => [0xAD]
  | .xorAtHl => [0xAE]
  | .xorA => [0xAF]
  | .xorN n => [0xEE, n]
  | .orB => [0xB0]
  | .orC => [0xB1]
  | .orD => [0xB2]
  | .orE => [0xB3]
  | .orH => [0xB4]
  | .orL => [0xB5]
  | .orAtHl => [0xB6]
  | .orA => [0xB7]
  | .orN n => [0xF6, n]
  | .cpB => [0xB8]
  | .cpC => [0xB9]
  | .cpD => [0xBA]
  | .cpE => [0xBB]
  | .cpH => [0xBC]
  | .cpL => [0xBD]
  | .cpAtHl => [0xBE]
  | .cpA => [0xBF]
  | .cpN n => [0xFE, n]
  | .incBc => [0x03]
  | .decBc => [0x0B]
  | .addHlBc => [0x09]
  | .incDe => [0x13]
  | .decDe => [0x1B]
  | .addHlDe => [0x19]
  | .incHl => [0x23]
  | .decHl => [0x2B]
  | .addHlHl => [0x29]
  | .incSp => [0x33]
  | .decSp => [0x3B]
  | .addHlSp => [0x39]
  | .jr e => [0x18, e]
  | .jrNz e => [0x20, e]
  | .jrZ e => [0x28, e]
  | .jrNc e => [0x30, e]
  | .jrC e => [0x38, e]
  | .retNz => [0xC0]
  | .jpNz nn => [0xC2, loByte nn, hiByte nn]
  | .callNz nn => [0xC4, loByte nn, hiByte nn]
  | .retZ => [0xC8]
  | .jpZ nn => [0xCA, loByte nn, hiByte nn]
  | .callZ nn => [0xCC, loByte nn, hiByte nn]
  | .retNc => [0xD0]
  | .jpNc nn => [0xD2, loByte nn, hiByte nn]
  | .callNc nn => [0xD4, loByte nn, hiByte nn]
  | .retC => [0xD8]
  | .jpC nn => [0xDA, loByte nn, hiByte nn]
  | .callC nn => [0xDC, loByte nn, hiByte nn]
  | .jp nn => [0xC3, loByte nn, hiByte nn]
  | .ret => [0xC9]
  | .call nn => [0xCD, loByte nn, hiByte nn]
  | .rst00 => [0xC7]
  | .rst08 => [0xCF]
  | .rst10 => [0xD7]
  | .rst18 => [0xDF]
  | .rst20 => [0xE7]
  | .rst28 => [0xEF]
  | .rst30 => [0xF7]
  | .rst38 => [0xFF]
  | .popBc => [0xC1]
  | .pushBc => [0xC5]
  | .popDe => [0xD1]
  | .pushDe => [0xD5]
  | .popHl => [0xE1]
  | .pushHl => [0xE5]
  | .popAf => [0xF1]
  | .pushAf => [0xF5]
  | .prefixCb sub => [0xCB, sub]
  | .swapB => [0xCB, 0x30]
  | .swapC => [0xCB, 0x31]
  | .swapD => [0xCB, 0x32]
  | .swapE => [0xCB, 0x33]
  | .swapH => [0xCB, 0x34]
  | .swapL => [0xCB, 0x35]
  | .swapAtHl => [0xCB, 0x36]
  | .swapA => [0xCB, 0x37]
  | .res0B => [0xCB, 0x80]
  | .res0C => [0xCB, 0x81]
  | .res0D => [0xCB, 0x82]
  | .res0E => [0xCB, 0x83]
  | .res0H => [0xCB, 0x84]
  | .res0L => [0xCB, 0x85]
  | .res0AtHl => [0xCB, 0x86]
  | .res0A => [0xCB, 0x87]
  | .res1B => [0xCB, 0x88]
  | .res1C => [0xCB, 0x89]
  | .res1D => [0xCB, 0x8A]
  | .res1E => [0xCB, 0x8B]
  | .res1H => [0xCB, 0x8C]
  | .res1L => [0xCB, 0x8D]
  | .res1AtHl => [0xCB, 0x8E]
  | .res1A => [0xCB, 0x8F]
  | .res2B => [0xCB, 0x90]
  | .res2C => [0xCB, 0x91]
  | .res2D => [0xCB, 0x92]
  | .res2E => [0xCB, 0x93]
  | .res2H => [0xCB, 0x94]
  | .res2L => [0xCB, 0x95]
  | .res2AtHl => [0xCB, 0x96]
  | .res2A => [0xCB, 0x97]
  | .res3B => [0xCB, 0x98]
  | .res3C => [0xCB, 0x99]
  | .res3D => [0xCB, 0x9A]
  | .res3E => [0xCB, 0x9B]
  | .res3H => [0xCB, 0x9C]
  | .res3L => [0xCB, 0x9D]
  | .res3AtHl => [0xCB, 0x9E]
  | .res3A => [0xCB, 0x9F]
  | .res4B => [0xCB, 0xA0]
  | .res4C => [0xCB, 0xA1]
  | .res4D => [0xCB, 0xA2]
  | .res4E => [0xCB, 0xA3]
  | .res4H => [0xCB, 0xA4]
  | .res4L => [0xCB, 0xA5]
  | .res4AtHl => [0xCB, 0xA6]
  | .res4A => [0xCB, 0xA7]
  | .res5B => [0xCB, 0xA8]
  | .res5C => [0xCB, 0xA9]
  | .res5D => [0xCB, 0xAA]
  | .res5E => [0xCB, 0xAB]
  | .res5H => [0xCB, 0xAC]
  | .res5L => [0xCB, 0xAD]
  | .res5AtHl => [0xCB, 0xAE]
  | .res5A => [0xCB, 0xAF]
  | .res6B => [0xCB, 0xB0]
  | .res6C => [0xCB, 0xB1]
  | .res6D => [0xCB, 0xB2]
  | .res6E => [0xCB, 0xB3]
  | .res6H => [0xCB, 0xB4]
  | .res6L => [0xCB, 0xB5]
  | .res6AtHl => [0xCB, 0xB6]
  | .res6A => [0xCB, 0xB7]
  | .res7B => [0xCB, 0xB8]
  | .res7C => [0xCB, 0xB9]
  | .res7D => [0xCB, 0xBA]
  | .res7E => [0xCB, 0xBB]
  | .res7H => [0xCB, 0xBC]
  | .res7L => [0xCB, 0xBD]
  | .res7AtHl => [0xCB, 0xBE]
  | .res7A => [0xCB, 0xBF]

end Sys2Proof
end

