-- ==== Sys2Proof/Machine/State.lean ====
section
/-! DEFINITION. The state of the CORE as plain data (10_state.md R20 to R38), its reset value, and the two ways a step
could stop. -/

namespace Sys2Proof.Machine

/-- The store of R28 as (address, byte) pairs in one canonical form: addresses strictly rising and below 65536, no byte
equal to what an unlisted address reads as, which is 0x00 (R38: "zero-initialized"; R41; `Memory.wf`; log 11). -/
abbrev Memory := List Host.Cell

/-- The renderer's buffer (R36) in the same canonical form: `pixels[x][y]` is the entry of key 256 * x + y, and an unlisted
pixel is colour index 0 (R38; log 10). -/
abbrev PixelBuffer := List (Nat × ColourIndex)

/-- R29: "The engine has a run state in {Running, Halted}". -/
inductive RunState where
  | running
  | halted
deriving DecidableEq, Repr

/-- The halt report (R30, R221). -/
inductive HaltReport where
  /-- no report: the engine has not entered Halted since reset -/
  | none
  /-- HALT at this address (R192) -/
  | haltInstruction (addr : Word)
  /-- a byte that is not in the named table, and the address it was fetched from (R220) -/
  | decodeFailure (table : OpTable) (byte : Byte) (addr : Word)
deriving DecidableEq, Repr

/-- Why the machine stops with a fault. NO CONSTRUCTOR: the spec gives the CORE no fault besides the decode failure, which
is a transition to Halted, a next state (R15: "no instruction can fail for any other reason"; R221; log 12). Nobody raises
one; safe. -/
inductive Fault
deriving DecidableEq, Repr

/-- Why an instruction has no meaning in this model. -/
inductive Refusal where
  /-- raised only by an arm of `exec` whose instruction has no meaning yet (safe); every instruction has one, so no arm of
  this model raises it -/
  | notModelled (mnemonic : String)
deriving DecidableEq, Repr

/-- The complete architectural state of the CORE (R32). -/
structure State where
  /-- the accumulator (R20) -/
  a : Byte
  /-- the flag register: Z, N, H, C in bits 7 to 4 (R24) -/
  f : Byte
  b : Byte
  c : Byte
  d : Byte
  e : Byte
  h : Byte
  l : Byte
  /-- the stack pointer (R22) -/
  sp : Word
  /-- the program counter (R23) -/
  pc : Word
  /-- the store (R28); 0xFFFF is the IE byte, 0xFF44 the scanline register (R35) -/
  mem : Memory
  /-- Running or Halted (R29) -/
  run : RunState
  /-- the halt report (R30) -/
  report : HaltReport
  /-- the renderer's pixel buffer (R36) -/
  pixels : PixelBuffer
deriving DecidableEq, Repr

/-- R38: every piece of state right after reset, before an image is loaded ("zero-initialized except PC=0x0100"). -/
def State.reset : State where
  a := 0x00
  f := 0x00
  b := 0x00
  c := 0x00
  d := 0x00
  e := 0x00
  h := 0x00
  l := 0x00
  sp := 0x0000
  pc := 0x0100
  mem := []
  run := .running
  report := .none
  pixels := []

end Sys2Proof.Machine
end

