-- ==== Sys2Proof/Machine/Ops.lean ====
section
/-! DEFINITION. The named operations over memory and registers: the store's canonical form, the bus (20_memory.md), the
register file (10_state.md R20 to R23), the fetch primitives (00_scope.md R14), the stack primitives (44_stack.md R172,
R173) and the entry into Halted (60_exceptions.md R220). There is no return from an exception (R225); only reset leaves
Halted. -/

namespace Sys2Proof.Machine

/-! ## Sparse stores

A list of (key, value) pairs in which an unlisted key reads as zero: the form of `Memory` and of `PixelBuffer`. -/

def Sparse.get {w : Nat} : List (Nat × BitVec w) → Nat → BitVec w
  | [], _ => 0
  | (k, v) :: t, a => if k = a then v else Sparse.get t a

def Sparse.erase {w : Nat} : List (Nat × BitVec w) → Nat → List (Nat × BitVec w)
  | [], _ => []
  | (k, v) :: t, a => if k = a then Sparse.erase t a else (k, v) :: Sparse.erase t a

/-- Puts a value at its place in the rising order of keys. -/
def Sparse.insert {w : Nat} : List (Nat × BitVec w) → Nat → BitVec w → List (Nat × BitVec w)
  | [], a, v => [(a, v)]
  | (k, u) :: t, a, v =>
    if k < a then (k, u) :: Sparse.insert t a v else if k = a then (a, v) :: t else (a, v) :: (k, u) :: t

/-- Writing zero, what an unlisted key reads as, removes the entry. -/
def Sparse.set {w : Nat} (m : List (Nat × BitVec w)) (a : Nat) (v : BitVec w) : List (Nat × BitVec w) :=
  if v = 0 then Sparse.erase m a else Sparse.insert m a v

/-- The canonical form from the key `lo` on, with every key below `bound`. -/
def Sparse.wfFrom {w : Nat} (bound : Nat) : Nat → List (Nat × BitVec w) → Bool
  | _, [] => true
  | lo, (k, v) :: t => decide (lo ≤ k) && decide (k < bound) && decide (v ≠ 0) && Sparse.wfFrom bound (k + 1) t

/-- The canonical store whose `n` keys from `k` on hold the values of `g`. -/
def Sparse.tabulate {w : Nat} (g : Nat → BitVec w) : Nat → Nat → List (Nat × BitVec w)
  | _, 0 => []
  | k, n + 1 => if g k = 0 then Sparse.tabulate g (k + 1) n else (k, g k) :: Sparse.tabulate g (k + 1) n

/-! ## The memory bus (R41, R46) -/

/-- `read(address)`: "every address in 0..0x10000 is valid and backed by storage". -/
def Memory.read (m : Memory) (addr : Word) : Byte := Sparse.get m addr.toNat

/-- `write(address, value)`: "a write changes only the addressed byte". -/
def Memory.write (m : Memory) (addr : Word) (v : Byte) : Memory := Sparse.set m addr.toNat v

/-- The canonical form of the store: addresses strictly rising and below 65536, no listed byte 0x00. -/
def Memory.wf (m : Memory) : Bool := Sparse.wfFrom 0x10000 0 m

/-- `pixels[x][y]` (R203), for x and y in 0..255. -/
def PixelBuffer.pixel (p : PixelBuffer) (x y : Nat) : ColourIndex := Sparse.get p (256 * x + y)

/-- The canonical form of the buffer of 256 x 256 pixels. -/
def PixelBuffer.wf (p : PixelBuffer) : Bool := Sparse.wfFrom 0x10000 0 p

/-- `MemRead(addr, 1)` (R13). -/
def State.readMem (s : State) (addr : Word) : Byte := s.mem.read addr

/-- `MemWrite(addr, 1, v)` (R13). -/
def State.writeMem (s : State) (addr : Word) (v : Byte) : State := { s with mem := s.mem.write addr v }

/-- The address of the IE byte (R35). -/
def ieAddr : Word := 0xFFFF

/-- The address of the scanline register (R35). -/
def scanlineAddr : Word := 0xFF44

/-! ## The register file (R12, R20, R21, R22) -/

/-- `x[r]`. -/
def State.reg (s : State) : Reg8 → Byte
  | .a => s.a
  | .f => s.f
  | .b => s.b
  | .c => s.c
  | .d => s.d
  | .e => s.e
  | .h => s.h
  | .l => s.l

/-- `x[r] <- v`. -/
def State.setReg (s : State) (r : Reg8) (v : Byte) : State :=
  match r with
  | .a => { s with a := v }
  | .f => { s with f := v }
  | .b => { s with b := v }
  | .c => { s with c := v }
  | .d => { s with d := v }
  | .e => { s with e := v }
  | .h => { s with h := v }
  | .l => { s with l := v }

/-- `x[p]` for a pair is `x[hi] : x[lo]` (R21); SP is a register of its own (R22). -/
def State.reg16 (s : State) : Reg16 → Word
  | .af => word s.a s.f
  | .bc => word s.b s.c
  | .de => word s.d s.e
  | .hl => word s.h s.l
  | .sp => s.sp

/-- `x[p] <- v` for a pair is `x[hi] <- v[15:8]; x[lo] <- v[7:0]` (R21). -/
def State.setReg16 (s : State) (p : Reg16) (v : Word) : State :=
  match p with
  | .af => { s with a := hiByte v, f := loByte v }
  | .bc => { s with b := hiByte v, c := loByte v }
  | .de => { s with d := hiByte v, e := loByte v }
  | .hl => { s with h := hiByte v, l := loByte v }
  | .sp => { s with sp := v }

/-- `pc <- target` (R12). -/
def State.setPc (s : State) (target : Word) : State := { s with pc := target }

/-! ## Fetch (R14, R23) -/

/-- The program counter moved past `n` fetched bytes, "wrapping 0xFFFF→0x0000". -/
def State.advance (s : State) (n : Nat) : State := { s with pc := s.pc + BitVec.ofNat 16 n }

/-- `fetch8()`: the byte at PC, and the state with PC past it. -/
def State.fetch8 (s : State) : Byte × State := (s.readMem s.pc, s.advance 1)

/-- `fetch16()`: "low byte first". -/
def State.fetch16 (s : State) : Word × State :=
  let (lo, t) := s.fetch8
  let (hi, u) := t.fetch8
  (word hi lo, u)

/-- The three bytes from PC on, which is as many as an instruction can have (R61). A bus read has no side effect (R46), so
looking at a byte that the instruction does not have changes nothing (log 4). -/
def State.fetchWindow (s : State) : Byte × Byte × Byte :=
  let (b0, s1) := s.fetch8
  let (b1, s2) := s1.fetch8
  let (b2, _) := s2.fetch8
  (b0, b1, b2)

/-! ## The stack (R172, R173) -/

/-- `push16(v)`: "decrements SP by 2, then writes the high byte at SP+1 and the low byte at SP". -/
def State.push16 (s : State) (v : Word) : State :=
  let sp := s.sp - 2
  (({ s with sp := sp }).writeMem (sp + 1) (hiByte v)).writeMem sp (loByte v)

/-- `pop16()`: "reads low byte at SP then high byte at SP+1 and increments SP by 2". -/
def State.pop16 (s : State) : Word × State :=
  let lo := s.readMem s.sp
  let hi := s.readMem (s.sp + 1)
  (word hi lo, { s with sp := s.sp + 2 })

/-! ## Entering Halted (R30, R192, R220) -/

/-- The one way into Halted: "Entering Halted saves nothing but the halt report" (R224). -/
def State.enterHalted (s : State) (r : HaltReport) : State := { s with run := .halted, report := r }

/-- `raise DecodeFailure(table, byte, addr)` (R220), the only exceptional event; PC stays where fetch left it, which the
caller has done. -/
def State.raiseDecodeFailure (s : State) (table : OpTable) (byte : Byte) (addr : Word) : State :=
  s.enterHalted (.decodeFailure table byte addr)

/-- The value `step()` returns after a step that ends in this state: `run == Running` (R33, R34; log 3). -/
def State.continues (s : State) : Bool := decide (s.run = .running)

/-- The numbers of R221. -/
def HaltReport.code : HaltReport → Nat
  | .none => 0
  | .haltInstruction _ => 1
  | .decodeFailure .primary _ _ => 2
  | .decodeFailure .prefixed _ _ => 3

end Sys2Proof.Machine
end

