-- ==== Sys2Proof/Machine/Flags.lean ====
section
/-! DEFINITION. The flag register (10_state.md R24, R25) and every flag computation of the spec (41_alu8.md R120 to R127,
42_alu16.md R142, 45_prefixed_bitops.md R180). -/

namespace Sys2Proof.Machine

/-- The bit of F that holds a flag (R24). -/
def flagMask : Flag → Byte
  | .z => 0x80
  | .n => 0x40
  | .h => 0x20
  | .c => 0x10

/-- `flag(f)` (R25). -/
def State.flag (s : State) (fl : Flag) : Bool := decide (s.f &&& flagMask fl ≠ 0)

/-- `flag(f) <- b`: "toggles one of the four named bits without disturbing the others" (R25). -/
def State.setFlag (s : State) (fl : Flag) (b : Bool) : State :=
  { s with f := if b then s.f ||| flagMask fl else s.f &&& ~~~flagMask fl }

/-- F[3:0], which has no flag (R24: "always 0"). -/
def State.lowF (s : State) : Byte := s.f &&& 0x0F

/-- Z, N and H written, C not (INC r, DEC r). -/
def State.setZNH (s : State) (z n h : Bool) : State := ((s.setFlag .z z).setFlag .n n).setFlag .h h

/-- N, H and C written, Z not (ADD HL,rr). -/
def State.setNHC (s : State) (n h c : Bool) : State := ((s.setFlag .n n).setFlag .h h).setFlag .c c

/-- All four flags written. -/
def State.setZNHC (s : State) (z n h c : Bool) : State := (s.setZNH z n h).setFlag .c c

/-- Z: `res == 0`. -/
def zeroFlag (res : Byte) : Bool := decide (res = 0)

/-- H of an 8-bit addition: the carry out of bit 3 (R120). -/
def halfCarryAdd (a n : Byte) : Bool := decide (((a &&& 0xF) + (n &&& 0xF)) &&& 0x10 = 0x10)

/-- C of an 8-bit addition: the carry out of bit 7, `(a + n) > 0xFF` over the integers (R120). -/
def carryAdd (a n : Byte) : Bool := decide (a.toNat + n.toNat > 0xFF)

/-- H of an 8-bit subtraction or compare: `(a & 0xF) < (n & 0xF)` (R121). -/
def halfBorrowSub (a n : Byte) : Bool := decide ((a &&& 0xF) < (n &&& 0xF))

/-- C of an 8-bit subtraction or compare: `a < n` (R121). -/
def borrowSub (a n : Byte) : Bool := decide (a < n)

/-- H of the 16-bit addition: the carry out of bit 11 (R142). -/
def halfCarryAdd16 (hl n : Word) : Bool := decide (((hl &&& 0xFFF) + (n &&& 0xFFF)) &&& 0x1000 = 0x1000)

/-- C of the 16-bit addition: the carry out of bit 15, `(hl + n) > 0xFFFF` over the integers (R142). -/
def carryAdd16 (hl n : Word) : Bool := decide (hl.toNat + n.toNat > 0xFFFF)

/-- The flags of ADD A,s (R120). -/
def State.setAddFlags (s : State) (a n : Byte) : State :=
  s.setZNHC (zeroFlag (a + n)) false (halfCarryAdd a n) (carryAdd a n)

/-- The flags of SUB and CP (R121, R125). -/
def State.setSubFlags (s : State) (a n : Byte) : State :=
  s.setZNHC (zeroFlag (a - n)) true (halfBorrowSub a n) (borrowSub a n)

/-- The flags of AND: "AND forces H=1, C=0" (R122). -/
def State.setAndFlags (s : State) (res : Byte) : State := s.setZNHC (zeroFlag res) false true false

/-- The flags of OR and XOR: "OR/XOR force H=0, C=0, N=0" (R123, R124); SWAP writes the same (R180, the spec's D8). -/
def State.setOrFlags (s : State) (res : Byte) : State := s.setZNHC (zeroFlag res) false false false

/-- The flags of INC r (R126); C is not written. -/
def State.setIncFlags (s : State) (a : Byte) : State := s.setZNH (zeroFlag (a + 1)) false (halfCarryAdd a 1)

/-- The flags of DEC r (R127); C is not written. -/
def State.setDecFlags (s : State) (a : Byte) : State := s.setZNH (zeroFlag (a - 1)) true (halfBorrowSub a 1)

/-- The flags of ADD HL,rr (R142); Z is not written. -/
def State.setAddHlFlags (s : State) (hl n : Word) : State :=
  s.setNHC false (halfCarryAdd16 hl n) (carryAdd16 hl n)

end Sys2Proof.Machine
end

