-- ==== Sys2Proof/Machine/Operands.lean ====
section
/-! DEFINITION. The operand forms: the operand codes of 30_encoding.md R63 to R65 and their reads and writes (00_scope.md
R16), the three sources of the ALU (41_alu8.md R129), the conditions. -/

namespace Sys2Proof.Machine

/-- What a 3-bit register code names (R63): a register, or the memory operand at `x[HL]`. -/
inductive Operand8 where
  | reg (r : Reg8)
  | atHl
deriving DecidableEq, Repr

/-- `reg8(k)` (R63); F is not reachable through this code. -/
def reg8 (k : BitVec 3) : Operand8 :=
  match k.toNat with
  | 0 => .reg .b
  | 1 => .reg .c
  | 2 => .reg .d
  | 3 => .reg .e
  | 4 => .reg .h
  | 5 => .reg .l
  | 6 => .atHl
  | _ => .reg .a

/-- `rp(p)` (R64). -/
def rp (p : BitVec 2) : Reg16 :=
  match p.toNat with
  | 0 => .bc
  | 1 => .de
  | 2 => .hl
  | _ => .sp

/-- `rp2(p)` (R64). -/
def rp2 (p : BitVec 2) : Reg16 :=
  match p.toNat with
  | 0 => .bc
  | 1 => .de
  | 2 => .hl
  | _ => .af

/-- `cc(k)` (R65). -/
def cc (k : BitVec 2) : Cond :=
  match k.toNat with
  | 0 => .nz
  | 1 => .z
  | 2 => .nc
  | _ => .c

/-- "holds when" (R65). -/
def State.cond (s : State) : Cond → Bool
  | .nz => !s.flag .z
  | .z => s.flag .z
  | .nc => !s.flag .c
  | .c => s.flag .c

/-- `read8(k)` (R16). -/
def State.read8 (s : State) : Operand8 → Byte
  | .reg r => s.reg r
  | .atHl => s.readMem (s.reg16 .hl)

/-- `write8(k, v)` (R16). -/
def State.write8 (s : State) (o : Operand8) (v : Byte) : State :=
  match o with
  | .reg r => s.setReg r v
  | .atHl => s.writeMem (s.reg16 .hl) v

/-- The second operand of an ALU instruction (R129). -/
inductive Source where
  | reg (r : Reg8)
  | atHl
  | imm (n : Byte)
deriving DecidableEq, Repr

/-- The length of the instruction with this source (R129). -/
def Source.length : Source → Nat
  | .reg _ => 1
  | .atHl => 1
  | .imm _ => 2

/-- The operand fetch of R129. -/
def State.source (s : State) : Source → Byte
  | .reg r => s.reg r
  | .atHl => s.readMem (s.reg16 .hl)
  | .imm n => n

end Sys2Proof.Machine
end

