-- ==== Sys2Proof/Machine/Alu16.lean ====
section
/-! DEFINITION. 16-bit arithmetic (42_alu16.md R140 to R142): the shared operations, then one meaning per instruction. -/

namespace Sys2Proof.Machine

/-- `INC rr` (R140): no flag. -/
def incReg16 (rr : Reg16) (s : State) : State := (s.advance 1).setReg16 rr (s.reg16 rr + 1)

/-- `DEC rr` (R141): no flag. -/
def decReg16 (rr : Reg16) (s : State) : State := (s.advance 1).setReg16 rr (s.reg16 rr - 1)

/-- `ADD HL,rr` (R142): Z is not written. -/
def addHlReg16 (rr : Reg16) (s : State) : State :=
  let hl := s.reg16 .hl
  let n := s.reg16 rr
  ((s.advance 1).setReg16 .hl (hl + n)).setAddHlFlags hl n

/-- `INC BC` (R140). -/
def execIncBc (s : State) : Host.Outcome State Fault Refusal := .next (incReg16 .bc s)

/-- `DEC BC` (R141). -/
def execDecBc (s : State) : Host.Outcome State Fault Refusal := .next (decReg16 .bc s)

/-- `ADD HL,BC` (R142). -/
def execAddHlBc (s : State) : Host.Outcome State Fault Refusal := .next (addHlReg16 .bc s)

/-- `INC DE` (R140). -/
def execIncDe (s : State) : Host.Outcome State Fault Refusal := .next (incReg16 .de s)

/-- `DEC DE` (R141). -/
def execDecDe (s : State) : Host.Outcome State Fault Refusal := .next (decReg16 .de s)

/-- `ADD HL,DE` (R142). -/
def execAddHlDe (s : State) : Host.Outcome State Fault Refusal := .next (addHlReg16 .de s)

/-- `INC HL` (R140). -/
def execIncHl (s : State) : Host.Outcome State Fault Refusal := .next (incReg16 .hl s)

/-- `DEC HL` (R141). -/
def execDecHl (s : State) : Host.Outcome State Fault Refusal := .next (decReg16 .hl s)

/-- `ADD HL,HL` (R142). -/
def execAddHlHl (s : State) : Host.Outcome State Fault Refusal := .next (addHlReg16 .hl s)

/-- `INC SP` (R140). -/
def execIncSp (s : State) : Host.Outcome State Fault Refusal := .next (incReg16 .sp s)

/-- `DEC SP` (R141). -/
def execDecSp (s : State) : Host.Outcome State Fault Refusal := .next (decReg16 .sp s)

/-- `ADD HL,SP` (R142). -/
def execAddHlSp (s : State) : Host.Outcome State Fault Refusal := .next (addHlReg16 .sp s)

end Sys2Proof.Machine
end

