-- ==== Sys2Proof/Machine/Alu8.lean ====
section
/-! DEFINITION. 8-bit arithmetic and logic (41_alu8.md R120 to R129). The shared operations first, each with its operand of
R129 read before any write, then one meaning per instruction. -/

namespace Sys2Proof.Machine

/-- `ADD A,s` (R120). -/
def aluAdd (src : Source) (s : State) : State :=
  let a := s.reg .a
  let n := s.source src
  ((s.advance src.length).setReg .a (a + n)).setAddFlags a n

/-- `SUB s` (R121). -/
def aluSub (src : Source) (s : State) : State :=
  let a := s.reg .a
  let n := s.source src
  ((s.advance src.length).setReg .a (a - n)).setSubFlags a n

/-- `AND s` (R122). -/
def aluAnd (src : Source) (s : State) : State :=
  let res := s.reg .a &&& s.source src
  ((s.advance src.length).setReg .a res).setAndFlags res

/-- `OR s` (R123). -/
def aluOr (src : Source) (s : State) : State :=
  let res := s.reg .a ||| s.source src
  ((s.advance src.length).setReg .a res).setOrFlags res

/-- `XOR s` (R124). -/
def aluXor (src : Source) (s : State) : State :=
  let res := s.reg .a ^^^ s.source src
  ((s.advance src.length).setReg .a res).setOrFlags res

/-- `CP s` (R125): "a non-mutating subtract". -/
def aluCp (src : Source) (s : State) : State :=
  (s.advance src.length).setSubFlags (s.reg .a) (s.source src)

/-- `INC r` (R126). -/
def incReg (r : Reg8) (s : State) : State :=
  ((s.advance 1).setReg r (s.reg r + 1)).setIncFlags (s.reg r)

/-- `DEC r` (R127). -/
def decReg (r : Reg8) (s : State) : State :=
  ((s.advance 1).setReg r (s.reg r - 1)).setDecFlags (s.reg r)

/-- `INC B` (R126). -/
def execIncB (s : State) : Host.Outcome State Fault Refusal := .next (incReg .b s)

/-- `DEC B` (R127). -/
def execDecB (s : State) : Host.Outcome State Fault Refusal := .next (decReg .b s)

/-- `INC C` (R126). -/
def execIncC (s : State) : Host.Outcome State Fault Refusal := .next (incReg .c s)

/-- `DEC C` (R127). -/
def execDecC (s : State) : Host.Outcome State Fault Refusal := .next (decReg .c s)

/-- `INC D` (R126). -/
def execIncD (s : State) : Host.Outcome State Fault Refusal := .next (incReg .d s)

/-- `DEC D` (R127). -/
def execDecD (s : State) : Host.Outcome State Fault Refusal := .next (decReg .d s)

/-- `INC E` (R126). -/
def execIncE (s : State) : Host.Outcome State Fault Refusal := .next (incReg .e s)

/-- `DEC E` (R127). -/
def execDecE (s : State) : Host.Outcome State Fault Refusal := .next (decReg .e s)

/-- `INC H` (R126). -/
def execIncH (s : State) : Host.Outcome State Fault Refusal := .next (incReg .h s)

/-- `DEC H` (R127). -/
def execDecH (s : State) : Host.Outcome State Fault Refusal := .next (decReg .h s)

/-- `INC L` (R126). -/
def execIncL (s : State) : Host.Outcome State Fault Refusal := .next (incReg .l s)

/-- `DEC L` (R127). -/
def execDecL (s : State) : Host.Outcome State Fault Refusal := .next (decReg .l s)

/-- `INC A` (R126). -/
def execIncA (s : State) : Host.Outcome State Fault Refusal := .next (incReg .a s)

/-- `DEC A` (R127). -/
def execDecA (s : State) : Host.Outcome State Fault Refusal := .next (decReg .a s)

/-- `ADD A,B` (R120). -/
def execAddB (s : State) : Host.Outcome State Fault Refusal := .next (aluAdd (.reg .b) s)

/-- `ADD A,C` (R120). -/
def execAddC (s : State) : Host.Outcome State Fault Refusal := .next (aluAdd (.reg .c) s)

/-- `ADD A,D` (R120). -/
def execAddD (s : State) : Host.Outcome State Fault Refusal := .next (aluAdd (.reg .d) s)

/-- `ADD A,E` (R120). -/
def execAddE (s : State) : Host.Outcome State Fault Refusal := .next (aluAdd (.reg .e) s)

/-- `ADD A,H` (R120). -/
def execAddH (s : State) : Host.Outcome State Fault Refusal := .next (aluAdd (.reg .h) s)

/-- `ADD A,L` (R120). -/
def execAddL (s : State) : Host.Outcome State Fault Refusal := .next (aluAdd (.reg .l) s)

/-- `ADD A,(HL)` (R120). -/
def execAddAtHl (s : State) : Host.Outcome State Fault Refusal := .next (aluAdd .atHl s)

/-- `ADD A,A` (R120). -/
def execAddA (s : State) : Host.Outcome State Fault Refusal := .next (aluAdd (.reg .a) s)

/-- `ADD A,n` (R120). -/
def execAddN (n : Byte) (s : State) : Host.Outcome State Fault Refusal := .next (aluAdd (.imm n) s)

/-- `SUB B` (R121). -/
def execSubB (s : State) : Host.Outcome State Fault Refusal := .next (aluSub (.reg .b) s)

/-- `SUB C` (R121). -/
def execSubC (s : State) : Host.Outcome State Fault Refusal := .next (aluSub (.reg .c) s)

/-- `SUB D` (R121). -/
def execSubD (s : State) : Host.Outcome State Fault Refusal := .next (aluSub (.reg .d) s)

/-- `SUB E` (R121). -/
def execSubE (s : State) : Host.Outcome State Fault Refusal := .next (aluSub (.reg .e) s)

/-- `SUB H` (R121). -/
def execSubH (s : State) : Host.Outcome State Fault Refusal := .next (aluSub (.reg .h) s)

/-- `SUB L` (R121). -/
def execSubL (s : State) : Host.Outcome State Fault Refusal := .next (aluSub (.reg .l) s)

/-- `SUB (HL)` (R121). -/
def execSubAtHl (s : State) : Host.Outcome State Fault Refusal := .next (aluSub .atHl s)

/-- `SUB A` (R121). -/
def execSubA (s : State) : Host.Outcome State Fault Refusal := .next (aluSub (.reg .a) s)

/-- `SUB n` (R121). -/
def execSubN (n : Byte) (s : State) : Host.Outcome State Fault Refusal := .next (aluSub (.imm n) s)

/-- `AND B` (R122). -/
def execAndB (s : State) : Host.Outcome State Fault Refusal := .next (aluAnd (.reg .b) s)

/-- `AND C` (R122). -/
def execAndC (s : State) : Host.Outcome State Fault Refusal := .next (aluAnd (.reg .c) s)

/-- `AND D` (R122). -/
def execAndD (s : State) : Host.Outcome State Fault Refusal := .next (aluAnd (.reg .d) s)

/-- `AND E` (R122). -/
def execAndE (s : State) : Host.Outcome State Fault Refusal := .next (aluAnd (.reg .e) s)

/-- `AND H` (R122). -/
def execAndH (s : State) : Host.Outcome State Fault Refusal := .next (aluAnd (.reg .h) s)

/-- `AND L` (R122). -/
def execAndL (s : State) : Host.Outcome State Fault Refusal := .next (aluAnd (.reg .l) s)

/-- `AND (HL)` (R122). -/
def execAndAtHl (s : State) : Host.Outcome State Fault Refusal := .next (aluAnd .atHl s)

/-- `AND A` (R122). -/
def execAndA (s : State) : Host.Outcome State Fault Refusal := .next (aluAnd (.reg .a) s)

/-- `AND n` (R122). -/
def execAndN (n : Byte) (s : State) : Host.Outcome State Fault Refusal := .next (aluAnd (.imm n) s)

/-- `XOR B` (R124). -/
def execXorB (s : State) : Host.Outcome State Fault Refusal := .next (aluXor (.reg .b) s)

/-- `XOR C` (R124). -/
def execXorC (s : State) : Host.Outcome State Fault Refusal := .next (aluXor (.reg .c) s)

/-- `XOR D` (R124). -/
def execXorD (s : State) : Host.Outcome State Fault Refusal := .next (aluXor (.reg .d) s)

/-- `XOR E` (R124). -/
def execXorE (s : State) : Host.Outcome State Fault Refusal := .next (aluXor (.reg .e) s)

/-- `XOR H` (R124). -/
def execXorH (s : State) : Host.Outcome State Fault Refusal := .next (aluXor (.reg .h) s)

/-- `XOR L` (R124). -/
def execXorL (s : State) : Host.Outcome State Fault Refusal := .next (aluXor (.reg .l) s)

/-- `XOR (HL)` (R124). -/
def execXorAtHl (s : State) : Host.Outcome State Fault Refusal := .next (aluXor .atHl s)

/-- `XOR A` (R124). -/
def execXorA (s : State) : Host.Outcome State Fault Refusal := .next (aluXor (.reg .a) s)

/-- `XOR n` (R124). -/
def execXorN (n : Byte) (s : State) : Host.Outcome State Fault Refusal := .next (aluXor (.imm n) s)

/-- `OR B` (R123). -/
def execOrB (s : State) : Host.Outcome State Fault Refusal := .next (aluOr (.reg .b) s)

/-- `OR C` (R123). -/
def execOrC (s : State) : Host.Outcome State Fault Refusal := .next (aluOr (.reg .c) s)

/-- `OR D` (R123). -/
def execOrD (s : State) : Host.Outcome State Fault Refusal := .next (aluOr (.reg .d) s)

/-- `OR E` (R123). -/
def execOrE (s : State) : Host.Outcome State Fault Refusal := .next (aluOr (.reg .e) s)

/-- `OR H` (R123). -/
def execOrH (s : State) : Host.Outcome State Fault Refusal := .next (aluOr (.reg .h) s)

/-- `OR L` (R123). -/
def execOrL (s : State) : Host.Outcome State Fault Refusal := .next (aluOr (.reg .l) s)

/-- `OR (HL)` (R123). -/
def execOrAtHl (s : State) : Host.Outcome State Fault Refusal := .next (aluOr .atHl s)

/-- `OR A` (R123). -/
def execOrA (s : State) : Host.Outcome State Fault Refusal := .next (aluOr (.reg .a) s)

/-- `OR n` (R123). -/
def execOrN (n : Byte) (s : State) : Host.Outcome State Fault Refusal := .next (aluOr (.imm n) s)

/-- `CP B` (R125). -/
def execCpB (s : State) : Host.Outcome State Fault Refusal := .next (aluCp (.reg .b) s)

/-- `CP C` (R125). -/
def execCpC (s : State) : Host.Outcome State Fault Refusal := .next (aluCp (.reg .c) s)

/-- `CP D` (R125). -/
def execCpD (s : State) : Host.Outcome State Fault Refusal := .next (aluCp (.reg .d) s)

/-- `CP E` (R125). -/
def execCpE (s : State) : Host.Outcome State Fault Refusal := .next (aluCp (.reg .e) s)

/-- `CP H` (R125). -/
def execCpH (s : State) : Host.Outcome State Fault Refusal := .next (aluCp (.reg .h) s)

/-- `CP L` (R125). -/
def execCpL (s : State) : Host.Outcome State Fault Refusal := .next (aluCp (.reg .l) s)

/-- `CP (HL)` (R125). -/
def execCpAtHl (s : State) : Host.Outcome State Fault Refusal := .next (aluCp .atHl s)

/-- `CP A` (R125). -/
def execCpA (s : State) : Host.Outcome State Fault Refusal := .next (aluCp (.reg .a) s)

/-- `CP n` (R125). -/
def execCpN (n : Byte) (s : State) : Host.Outcome State Fault Refusal := .next (aluCp (.imm n) s)

end Sys2Proof.Machine
end

