-- ==== Sys2Proof/Machine/BitOps.lean ====
section
/-! DEFINITION. The prefix 0xCB and the prefixed bit operations (45_prefixed_bitops.md R180 to R182): the shared operations,
then one meaning per instruction. -/

namespace Sys2Proof.Machine

/-- The nibbles of a byte exchanged: `((v & 0x0F) << 4) | (v >> 4)` (R180). -/
def swapNibbles (v : Byte) : Byte := ((v &&& 0x0F) <<< 4) ||| (v >>> 4)

/-- `SWAP s` (R180). -/
def swapOperand (o : Operand8) (s : State) : State :=
  let res := swapNibbles (s.read8 o)
  ((s.advance 2).write8 o res).setOrFlags res

/-- The byte with bit b cleared: `v & (0xFF ^ (1 << b))` (R181). -/
def clearBit (b : BitVec 3) (v : Byte) : Byte := v &&& (0xFF ^^^ ((1 : Byte) <<< b.toNat))

/-- `RES b,s` (R181): no flag. -/
def resOperand (b : BitVec 3) (o : Operand8) (s : State) : State :=
  (s.advance 2).write8 o (clearBit b (s.read8 o))

/-- The rule that 0xCB selects (R182, R74): SWAP for a sub-opcode `00 110 zzz`, RES for `10 yyy zzz`, and for any other the
decode failure with the sub-opcode's own address (R67, R220). -/
def prefixedRule (sub : Byte) (s : State) : State :=
  if fieldX sub = 0 ∧ fieldY sub = 6 then swapOperand (reg8 (fieldZ sub)) s
  else if fieldX sub = 2 then resOperand (fieldY sub) (reg8 (fieldZ sub)) s
  else (s.advance 2).raiseDecodeFailure .prefixed sub (s.pc + 1)

/-- `PREFIX CB` (R182). -/
def execPrefixCb (sub : Byte) (s : State) : Host.Outcome State Fault Refusal := .next (prefixedRule sub s)

/-- `SWAP B` (R180). -/
def execSwapB (s : State) : Host.Outcome State Fault Refusal := .next (swapOperand (.reg .b) s)

/-- `SWAP C` (R180). -/
def execSwapC (s : State) : Host.Outcome State Fault Refusal := .next (swapOperand (.reg .c) s)

/-- `SWAP D` (R180). -/
def execSwapD (s : State) : Host.Outcome State Fault Refusal := .next (swapOperand (.reg .d) s)

/-- `SWAP E` (R180). -/
def execSwapE (s : State) : Host.Outcome State Fault Refusal := .next (swapOperand (.reg .e) s)

/-- `SWAP H` (R180). -/
def execSwapH (s : State) : Host.Outcome State Fault Refusal := .next (swapOperand (.reg .h) s)

/-- `SWAP L` (R180). -/
def execSwapL (s : State) : Host.Outcome State Fault Refusal := .next (swapOperand (.reg .l) s)

/-- `SWAP (HL)` (R180). -/
def execSwapAtHl (s : State) : Host.Outcome State Fault Refusal := .next (swapOperand .atHl s)

/-- `SWAP A` (R180). -/
def execSwapA (s : State) : Host.Outcome State Fault Refusal := .next (swapOperand (.reg .a) s)

/-- `RES 0,B` (R181). -/
def execRes0B (s : State) : Host.Outcome State Fault Refusal := .next (resOperand 0 (.reg .b) s)

/-- `RES 0,C` (R181). -/
def execRes0C (s : State) : Host.Outcome State Fault Refusal := .next (resOperand 0 (.reg .c) s)

/-- `RES 0,D` (R181). -/
def execRes0D (s : State) : Host.Outcome State Fault Refusal := .next (resOperand 0 (.reg .d) s)

/-- `RES 0,E` (R181). -/
def execRes0E (s : State) : Host.Outcome State Fault Refusal := .next (resOperand 0 (.reg .e) s)

/-- `RES 0,H` (R181). -/
def execRes0H (s : State) : Host.Outcome State Fault Refusal := .next (resOperand 0 (.reg .h) s)

/-- `RES 0,L` (R181). -/
def execRes0L (s : State) : Host.Outcome State Fault Refusal := .next (resOperand 0 (.reg .l) s)

/-- `RES 0,(HL)` (R181). -/
def execRes0AtHl (s : State) : Host.Outcome State Fault Refusal := .next (resOperand 0 .atHl s)

/-- `RES 0,A` (R181). -/
def execRes0A (s : State) : Host.Outcome State Fault Refusal := .next (resOperand 0 (.reg .a) s)

/-- `RES 1,B` (R181). -/
def execRes1B (s : State) : Host.Outcome State Fault Refusal := .next (resOperand 1 (.reg .b) s)

/-- `RES 1,C` (R181). -/
def execRes1C (s : State) : Host.Outcome State Fault Refusal := .next (resOperand 1 (.reg .c) s)

/-- `RES 1,D` (R181). -/
def execRes1D (s : State) : Host.Outcome State Fault Refusal := .next (resOperand 1 (.reg .d) s)

/-- `RES 1,E` (R181). -/
def execRes1E (s : State) : Host.Outcome State Fault Refusal := .next (resOperand 1 (.reg .e) s)

/-- `RES 1,H` (R181). -/
def execRes1H (s : State) : Host.Outcome State Fault Refusal := .next (resOperand 1 (.reg .h) s)

/-- `RES 1,L` (R181). -/
def execRes1L (s : State) : Host.Outcome State Fault Refusal := .next (resOperand 1 (.reg .l) s)

/-- `RES 1,(HL)` (R181). -/
def execRes1AtHl (s : State) : Host.Outcome State Fault Refusal := .next (resOperand 1 .atHl s)

/-- `RES 1,A` (R181). -/
def execRes1A (s : State) : Host.Outcome State Fault Refusal := .next (resOperand 1 (.reg .a) s)

/-- `RES 2,B` (R181). -/
def execRes2B (s : State) : Host.Outcome State Fault Refusal := .next (resOperand 2 (.reg .b) s)

/-- `RES 2,C` (R181). -/
def execRes2C (s : State) : Host.Outcome State Fault Refusal := .next (resOperand 2 (.reg .c) s)

/-- `RES 2,D` (R181). -/
def execRes2D (s : State) : Host.Outcome State Fault Refusal := .next (resOperand 2 (.reg .d) s)

/-- `RES 2,E` (R181). -/
def execRes2E (s : State) : Host.Outcome State Fault Refusal := .next (resOperand 2 (.reg .e) s)

/-- `RES 2,H` (R181). -/
def execRes2H (s : State) : Host.Outcome State Fault Refusal := .next (resOperand 2 (.reg .h) s)

/-- `RES 2,L` (R181). -/
def execRes2L (s : State) : Host.Outcome State Fault Refusal := .next (resOperand 2 (.reg .l) s)

/-- `RES 2,(HL)` (R181). -/
def execRes2AtHl (s : State) : Host.Outcome State Fault Refusal := .next (resOperand 2 .atHl s)

/-- `RES 2,A` (R181). -/
def execRes2A (s : State) : Host.Outcome State Fault Refusal := .next (resOperand 2 (.reg .a) s)

/-- `RES 3,B` (R181). -/
def execRes3B (s : State) : Host.Outcome State Fault Refusal := .next (resOperand 3 (.reg .b) s)

/-- `RES 3,C` (R181). -/
def execRes3C (s : State) : Host.Outcome State Fault Refusal := .next (resOperand 3 (.reg .c) s)

/-- `RES 3,D` (R181). -/
def execRes3D (s : State) : Host.Outcome State Fault Refusal := .next (resOperand 3 (.reg .d) s)

/-- `RES 3,E` (R181). -/
def execRes3E (s : State) : Host.Outcome State Fault Refusal := .next (resOperand 3 (.reg .e) s)

/-- `RES 3,H` (R181). -/
def execRes3H (s : State) : Host.Outcome State Fault Refusal := .next (resOperand 3 (.reg .h) s)

/-- `RES 3,L` (R181). -/
def execRes3L (s : State) : Host.Outcome State Fault Refusal := .next (resOperand 3 (.reg .l) s)

/-- `RES 3,(HL)` (R181). -/
def execRes3AtHl (s : State) : Host.Outcome State Fault Refusal := .next (resOperand 3 .atHl s)

/-- `RES 3,A` (R181). -/
def execRes3A (s : State) : Host.Outcome State Fault Refusal := .next (resOperand 3 (.reg .a) s)

/-- `RES 4,B` (R181). -/
def execRes4B (s : State) : Host.Outcome State Fault Refusal := .next (resOperand 4 (.reg .b) s)

/-- `RES 4,C` (R181). -/
def execRes4C (s : State) : Host.Outcome State Fault Refusal := .next (resOperand 4 (.reg .c) s)

/-- `RES 4,D` (R181). -/
def execRes4D (s : State) : Host.Outcome State Fault Refusal := .next (resOperand 4 (.reg .d) s)

/-- `RES 4,E` (R181). -/
def execRes4E (s : State) : Host.Outcome State Fault Refusal := .next (resOperand 4 (.reg .e) s)

/-- `RES 4,H` (R181). -/
def execRes4H (s : State) : Host.Outcome State Fault Refusal := .next (resOperand 4 (.reg .h) s)

/-- `RES 4,L` (R181). -/
def execRes4L (s : State) : Host.Outcome State Fault Refusal := .next (resOperand 4 (.reg .l) s)

/-- `RES 4,(HL)` (R181). -/
def execRes4AtHl (s : State) : Host.Outcome State Fault Refusal := .next (resOperand 4 .atHl s)

/-- `RES 4,A` (R181). -/
def execRes4A (s : State) : Host.Outcome State Fault Refusal := .next (resOperand 4 (.reg .a) s)

/-- `RES 5,B` (R181). -/
def execRes5B (s : State) : Host.Outcome State Fault Refusal := .next (resOperand 5 (.reg .b) s)

/-- `RES 5,C` (R181). -/
def execRes5C (s : State) : Host.Outcome State Fault Refusal := .next (resOperand 5 (.reg .c) s)

/-- `RES 5,D` (R181). -/
def execRes5D (s : State) : Host.Outcome State Fault Refusal := .next (resOperand 5 (.reg .d) s)

/-- `RES 5,E` (R181). -/
def execRes5E (s : State) : Host.Outcome State Fault Refusal := .next (resOperand 5 (.reg .e) s)

/-- `RES 5,H` (R181). -/
def execRes5H (s : State) : Host.Outcome State Fault Refusal := .next (resOperand 5 (.reg .h) s)

/-- `RES 5,L` (R181). -/
def execRes5L (s : State) : Host.Outcome State Fault Refusal := .next (resOperand 5 (.reg .l) s)

/-- `RES 5,(HL)` (R181). -/
def execRes5AtHl (s : State) : Host.Outcome State Fault Refusal := .next (resOperand 5 .atHl s)

/-- `RES 5,A` (R181). -/
def execRes5A (s : State) : Host.Outcome State Fault Refusal := .next (resOperand 5 (.reg .a) s)

/-- `RES 6,B` (R181). -/
def execRes6B (s : State) : Host.Outcome State Fault Refusal := .next (resOperand 6 (.reg .b) s)

/-- `RES 6,C` (R181). -/
def execRes6C (s : State) : Host.Outcome State Fault Refusal := .next (resOperand 6 (.reg .c) s)

/-- `RES 6,D` (R181). -/
def execRes6D (s : State) : Host.Outcome State Fault Refusal := .next (resOperand 6 (.reg .d) s)

/-- `RES 6,E` (R181). -/
def execRes6E (s : State) : Host.Outcome State Fault Refusal := .next (resOperand 6 (.reg .e) s)

/-- `RES 6,H` (R181). -/
def execRes6H (s : State) : Host.Outcome State Fault Refusal := .next (resOperand 6 (.reg .h) s)

/-- `RES 6,L` (R181). -/
def execRes6L (s : State) : Host.Outcome State Fault Refusal := .next (resOperand 6 (.reg .l) s)

/-- `RES 6,(HL)` (R181). -/
def execRes6AtHl (s : State) : Host.Outcome State Fault Refusal := .next (resOperand 6 .atHl s)

/-- `RES 6,A` (R181). -/
def execRes6A (s : State) : Host.Outcome State Fault Refusal := .next (resOperand 6 (.reg .a) s)

/-- `RES 7,B` (R181). -/
def execRes7B (s : State) : Host.Outcome State Fault Refusal := .next (resOperand 7 (.reg .b) s)

/-- `RES 7,C` (R181). -/
def execRes7C (s : State) : Host.Outcome State Fault Refusal := .next (resOperand 7 (.reg .c) s)

/-- `RES 7,D` (R181). -/
def execRes7D (s : State) : Host.Outcome State Fault Refusal := .next (resOperand 7 (.reg .d) s)

/-- `RES 7,E` (R181). -/
def execRes7E (s : State) : Host.Outcome State Fault Refusal := .next (resOperand 7 (.reg .e) s)

/-- `RES 7,H` (R181). -/
def execRes7H (s : State) : Host.Outcome State Fault Refusal := .next (resOperand 7 (.reg .h) s)

/-- `RES 7,L` (R181). -/
def execRes7L (s : State) : Host.Outcome State Fault Refusal := .next (resOperand 7 (.reg .l) s)

/-- `RES 7,(HL)` (R181). -/
def execRes7AtHl (s : State) : Host.Outcome State Fault Refusal := .next (resOperand 7 .atHl s)

/-- `RES 7,A` (R181). -/
def execRes7A (s : State) : Host.Outcome State Fault Refusal := .next (resOperand 7 (.reg .a) s)

end Sys2Proof.Machine
end

