-- ==== Sys2Proof/Machine/Control.lean ====
section
/-! DEFINITION. Jumps, calls, returns and restarts (43_control_transfer.md R150 to R158): the shared operations, then one
meaning per instruction. The immediate is consumed whether or not the transfer is taken (R151, R153, R155). -/

namespace Sys2Proof.Machine

/-- `JP nn` (R150). -/
def jump (nn : Word) (s : State) : State := (s.advance 3).setPc nn

/-- `JP cc,nn` (R151). -/
def jumpIf (k : Cond) (nn : Word) (s : State) : State := if s.cond k then jump nn s else s.advance 3

/-- `JR e` (R152): the offset is added to the address after the two bytes. -/
def jumpRel (e : Byte) (s : State) : State :=
  let t := s.advance 2
  t.setPc (t.pc + sext16 e)

/-- `JR cc,e` (R153). -/
def jumpRelIf (k : Cond) (e : Byte) (s : State) : State := if s.cond k then jumpRel e s else s.advance 2

/-- `CALL nn` (R154): the pushed PC is the address after the call's three bytes. -/
def callAbs (nn : Word) (s : State) : State :=
  let t := s.advance 3
  (t.push16 t.pc).setPc nn

/-- `CALL cc,nn` (R155). -/
def callAbsIf (k : Cond) (nn : Word) (s : State) : State := if s.cond k then callAbs nn s else s.advance 3

/-- `RET` (R156): `pc <- pop16()`. -/
def retOp (s : State) : State :=
  let (v, t) := (s.advance 1).pop16
  t.setPc v

/-- `RET cc` (R157). -/
def retIf (k : Cond) (s : State) : State := if s.cond k then retOp s else s.advance 1

/-- `RST v` (R158): "always pushing the return address first". -/
def restart (v : Byte) (s : State) : State :=
  let t := s.advance 1
  (t.push16 t.pc).setPc (zext16 v)

/-- `JR e` (R152). -/
def execJr (e : Byte) (s : State) : Host.Outcome State Fault Refusal := .next (jumpRel e s)

/-- `JR NZ,e` (R153). -/
def execJrNz (e : Byte) (s : State) : Host.Outcome State Fault Refusal := .next (jumpRelIf .nz e s)

/-- `JR Z,e` (R153). -/
def execJrZ (e : Byte) (s : State) : Host.Outcome State Fault Refusal := .next (jumpRelIf .z e s)

/-- `JR NC,e` (R153). -/
def execJrNc (e : Byte) (s : State) : Host.Outcome State Fault Refusal := .next (jumpRelIf .nc e s)

/-- `JR C,e` (R153). -/
def execJrC (e : Byte) (s : State) : Host.Outcome State Fault Refusal := .next (jumpRelIf .c e s)

/-- `RET NZ` (R157). -/
def execRetNz (s : State) : Host.Outcome State Fault Refusal := .next (retIf .nz s)

/-- `JP NZ,nn` (R151). -/
def execJpNz (nn : Word) (s : State) : Host.Outcome State Fault Refusal := .next (jumpIf .nz nn s)

/-- `CALL NZ,nn` (R155). -/
def execCallNz (nn : Word) (s : State) : Host.Outcome State Fault Refusal := .next (callAbsIf .nz nn s)

/-- `RET Z` (R157). -/
def execRetZ (s : State) : Host.Outcome State Fault Refusal := .next (retIf .z s)

/-- `JP Z,nn` (R151). -/
def execJpZ (nn : Word) (s : State) : Host.Outcome State Fault Refusal := .next (jumpIf .z nn s)

/-- `CALL Z,nn` (R155). -/
def execCallZ (nn : Word) (s : State) : Host.Outcome State Fault Refusal := .next (callAbsIf .z nn s)

/-- `RET NC` (R157). -/
def execRetNc (s : State) : Host.Outcome State Fault Refusal := .next (retIf .nc s)

/-- `JP NC,nn` (R151). -/
def execJpNc (nn : Word) (s : State) : Host.Outcome State Fault Refusal := .next (jumpIf .nc nn s)

/-- `CALL NC,nn` (R155). -/
def execCallNc (nn : Word) (s : State) : Host.Outcome State Fault Refusal := .next (callAbsIf .nc nn s)

/-- `RET C` (R157). -/
def execRetC (s : State) : Host.Outcome State Fault Refusal := .next (retIf .c s)

/-- `JP C,nn` (R151). -/
def execJpC (nn : Word) (s : State) : Host.Outcome State Fault Refusal := .next (jumpIf .c nn s)

/-- `CALL C,nn` (R155). -/
def execCallC (nn : Word) (s : State) : Host.Outcome State Fault Refusal := .next (callAbsIf .c nn s)

/-- `JP nn` (R150). -/
def execJp (nn : Word) (s : State) : Host.Outcome State Fault Refusal := .next (jump nn s)

/-- `RET` (R156). -/
def execRet (s : State) : Host.Outcome State Fault Refusal := .next (retOp s)

/-- `CALL nn` (R154). -/
def execCall (nn : Word) (s : State) : Host.Outcome State Fault Refusal := .next (callAbs nn s)

/-- `RST 0x00` (R158). -/
def execRst00 (s : State) : Host.Outcome State Fault Refusal := .next (restart 0x00 s)

/-- `RST 0x08` (R158). -/
def execRst08 (s : State) : Host.Outcome State Fault Refusal := .next (restart 0x08 s)

/-- `RST 0x10` (R158). -/
def execRst10 (s : State) : Host.Outcome State Fault Refusal := .next (restart 0x10 s)

/-- `RST 0x18` (R158). -/
def execRst18 (s : State) : Host.Outcome State Fault Refusal := .next (restart 0x18 s)

/-- `RST 0x20` (R158). -/
def execRst20 (s : State) : Host.Outcome State Fault Refusal := .next (restart 0x20 s)

/-- `RST 0x28` (R158). -/
def execRst28 (s : State) : Host.Outcome State Fault Refusal := .next (restart 0x28 s)

/-- `RST 0x30` (R158). -/
def execRst30 (s : State) : Host.Outcome State Fault Refusal := .next (restart 0x30 s)

/-- `RST 0x38` (R158). -/
def execRst38 (s : State) : Host.Outcome State Fault Refusal := .next (restart 0x38 s)

end Sys2Proof.Machine
end

