-- ==== Sys2Proof/Machine/Loads.lean ====
section
/-! DEFINITION. 8-bit and 16-bit loads (40_loads.md R100 to R113). No load writes a flag. The shared operations first, then
one meaning per instruction. A meaning takes the state with PC at the opcode byte and moves PC past the instruction's bytes
itself (R23; log 4). -/

namespace Sys2Proof.Machine

/-- `LD r,n` (R100): `n <- fetch8(); x[r] <- n`. -/
def ldRegImm (r : Reg8) (n : Byte) (s : State) : State := (s.advance 2).setReg r n

/-- `LD d,s` (R101): `x[d] <- x[s]`. -/
def ldRegReg (dst src : Reg8) (s : State) : State := (s.advance 1).setReg dst (s.reg src)

/-- `LD r,(HL)` (R102): the address is HL before the write. -/
def ldRegAtHl (r : Reg8) (s : State) : State := (s.advance 1).setReg r (s.readMem (s.reg16 .hl))

/-- `LD (HL),r` (R103). -/
def ldAtHlReg (r : Reg8) (s : State) : State := (s.advance 1).writeMem (s.reg16 .hl) (s.reg r)

/-- `LD rr,nn` (R104). -/
def ldReg16Imm (rr : Reg16) (nn : Word) (s : State) : State := (s.advance 3).setReg16 rr nn

/-- `LD SP,HL` (R105). -/
def ldSpFromHl (s : State) : State := (s.advance 1).setReg16 .sp (s.reg16 .hl)

/-- `LD (BC),A` and `LD (DE),A` (R106, R107). -/
def storeAAt (rr : Reg16) (s : State) : State := (s.advance 1).writeMem (s.reg16 rr) s.a

/-- `LD (HL+),A` (R108): store, then increment HL. -/
def storeAAtHlInc (s : State) : State :=
  ((s.advance 1).writeMem (s.reg16 .hl) s.a).setReg16 .hl (s.reg16 .hl + 1)

/-- `LD (HL-),A` (R109): store, then decrement HL. -/
def storeAAtHlDec (s : State) : State :=
  ((s.advance 1).writeMem (s.reg16 .hl) s.a).setReg16 .hl (s.reg16 .hl - 1)

/-- The address `0xFF00 + n` of the I/O-page forms (R62). -/
def highAddr (n : Byte) : Word := 0xFF00 + zext16 n

/-- `LDH (n),A` (R110). -/
def storeAHigh (n : Byte) (s : State) : State := (s.advance 2).writeMem (highAddr n) s.a

/-- `LDH A,(n)` (R111). -/
def loadAHigh (n : Byte) (s : State) : State := (s.advance 2).setReg .a (s.readMem (highAddr n))

/-- `LD (nn),A` (R112). -/
def storeAAbs (nn : Word) (s : State) : State := (s.advance 3).writeMem nn s.a

/-- `LD A,(nn)` (R113). -/
def loadAAbs (nn : Word) (s : State) : State := (s.advance 3).setReg .a (s.readMem nn)

/-- `LD BC,nn` (R104). -/
def execLdBcNn (nn : Word) (s : State) : Host.Outcome State Fault Refusal := .next (ldReg16Imm .bc nn s)

/-- `LD DE,nn` (R104). -/
def execLdDeNn (nn : Word) (s : State) : Host.Outcome State Fault Refusal := .next (ldReg16Imm .de nn s)

/-- `LD HL,nn` (R104). -/
def execLdHlNn (nn : Word) (s : State) : Host.Outcome State Fault Refusal := .next (ldReg16Imm .hl nn s)

/-- `LD SP,nn` (R104). -/
def execLdSpNn (nn : Word) (s : State) : Host.Outcome State Fault Refusal := .next (ldReg16Imm .sp nn s)

/-- `LD (BC),A` (R106). -/
def execLdAtBcA (s : State) : Host.Outcome State Fault Refusal := .next (storeAAt .bc s)

/-- `LD (DE),A` (R107). -/
def execLdAtDeA (s : State) : Host.Outcome State Fault Refusal := .next (storeAAt .de s)

/-- `LD (HL+),A` (R108). -/
def execLdAtHlIncA (s : State) : Host.Outcome State Fault Refusal := .next (storeAAtHlInc s)

/-- `LD (HL-),A` (R109). -/
def execLdAtHlDecA (s : State) : Host.Outcome State Fault Refusal := .next (storeAAtHlDec s)

/-- `LD B,n` (R100). -/
def execLdBN (n : Byte) (s : State) : Host.Outcome State Fault Refusal := .next (ldRegImm .b n s)

/-- `LD C,n` (R100). -/
def execLdCN (n : Byte) (s : State) : Host.Outcome State Fault Refusal := .next (ldRegImm .c n s)

/-- `LD D,n` (R100). -/
def execLdDN (n : Byte) (s : State) : Host.Outcome State Fault Refusal := .next (ldRegImm .d n s)

/-- `LD E,n` (R100). -/
def execLdEN (n : Byte) (s : State) : Host.Outcome State Fault Refusal := .next (ldRegImm .e n s)

/-- `LD H,n` (R100). -/
def execLdHN (n : Byte) (s : State) : Host.Outcome State Fault Refusal := .next (ldRegImm .h n s)

/-- `LD L,n` (R100). -/
def execLdLN (n : Byte) (s : State) : Host.Outcome State Fault Refusal := .next (ldRegImm .l n s)

/-- `LD A,n` (R100). -/
def execLdAN (n : Byte) (s : State) : Host.Outcome State Fault Refusal := .next (ldRegImm .a n s)

/-- `LD B,B` (R101). -/
def execLdBB (s : State) : Host.Outcome State Fault Refusal := .next (ldRegReg .b .b s)

/-- `LD B,C` (R101). -/
def execLdBC (s : State) : Host.Outcome State Fault Refusal := .next (ldRegReg .b .c s)

/-- `LD B,D` (R101). -/
def execLdBD (s : State) : Host.Outcome State Fault Refusal := .next (ldRegReg .b .d s)

/-- `LD B,E` (R101). -/
def execLdBE (s : State) : Host.Outcome State Fault Refusal := .next (ldRegReg .b .e s)

/-- `LD B,H` (R101). -/
def execLdBH (s : State) : Host.Outcome State Fault Refusal := .next (ldRegReg .b .h s)

/-- `LD B,L` (R101). -/
def execLdBL (s : State) : Host.Outcome State Fault Refusal := .next (ldRegReg .b .l s)

/-- `LD B,(HL)` (R102). -/
def execLdBAtHl (s : State) : Host.Outcome State Fault Refusal := .next (ldRegAtHl .b s)

/-- `LD B,A` (R101). -/
def execLdBA (s : State) : Host.Outcome State Fault Refusal := .next (ldRegReg .b .a s)

/-- `LD C,B` (R101). -/
def execLdCB (s : State) : Host.Outcome State Fault Refusal := .next (ldRegReg .c .b s)

/-- `LD C,C` (R101). -/
def execLdCC (s : State) : Host.Outcome State Fault Refusal := .next (ldRegReg .c .c s)

/-- `LD C,D` (R101). -/
def execLdCD (s : State) : Host.Outcome State Fault Refusal := .next (ldRegReg .c .d s)

/-- `LD C,E` (R101). -/
def execLdCE (s : State) : Host.Outcome State Fault Refusal := .next (ldRegReg .c .e s)

/-- `LD C,H` (R101). -/
def execLdCH (s : State) : Host.Outcome State Fault Refusal := .next (ldRegReg .c .h s)

/-- `LD C,L` (R101). -/
def execLdCL (s : State) : Host.Outcome State Fault Refusal := .next (ldRegReg .c .l s)

/-- `LD C,(HL)` (R102). -/
def execLdCAtHl (s : State) : Host.Outcome State Fault Refusal := .next (ldRegAtHl .c s)

/-- `LD C,A` (R101). -/
def execLdCA (s : State) : Host.Outcome State Fault Refusal := .next (ldRegReg .c .a s)

/-- `LD D,B` (R101). -/
def execLdDB (s : State) : Host.Outcome State Fault Refusal := .next (ldRegReg .d .b s)

/-- `LD D,C` (R101). -/
def execLdDC (s : State) : Host.Outcome State Fault Refusal := .next (ldRegReg .d .c s)

/-- `LD D,D` (R101). -/
def execLdDD (s : State) : Host.Outcome State Fault Refusal := .next (ldRegReg .d .d s)

/-- `LD D,E` (R101). -/
def execLdDE (s : State) : Host.Outcome State Fault Refusal := .next (ldRegReg .d .e s)

/-- `LD D,H` (R101). -/
def execLdDH (s : State) : Host.Outcome State Fault Refusal := .next (ldRegReg .d .h s)

/-- `LD D,L` (R101). -/
def execLdDL (s : State) : Host.Outcome State Fault Refusal := .next (ldRegReg .d .l s)

/-- `LD D,(HL)` (R102). -/
def execLdDAtHl (s : State) : Host.Outcome State Fault Refusal := .next (ldRegAtHl .d s)

/-- `LD D,A` (R101). -/
def execLdDA (s : State) : Host.Outcome State Fault Refusal := .next (ldRegReg .d .a s)

/-- `LD E,B` (R101). -/
def execLdEB (s : State) : Host.Outcome State Fault Refusal := .next (ldRegReg .e .b s)

/-- `LD E,C` (R101). -/
def execLdEC (s : State) : Host.Outcome State Fault Refusal := .next (ldRegReg .e .c s)

/-- `LD E,D` (R101). -/
def execLdED (s : State) : Host.Outcome State Fault Refusal := .next (ldRegReg .e .d s)

/-- `LD E,E` (R101). -/
def execLdEE (s : State) : Host.Outcome State Fault Refusal := .next (ldRegReg .e .e s)

/-- `LD E,H` (R101). -/
def execLdEH (s : State) : Host.Outcome State Fault Refusal := .next (ldRegReg .e .h s)

/-- `LD E,L` (R101). -/
def execLdEL (s : State) : Host.Outcome State Fault Refusal := .next (ldRegReg .e .l s)

/-- `LD E,(HL)` (R102). -/
def execLdEAtHl (s : State) : Host.Outcome State Fault Refusal := .next (ldRegAtHl .e s)

/-- `LD E,A` (R101). -/
def execLdEA (s : State) : Host.Outcome State Fault Refusal := .next (ldRegReg .e .a s)

/-- `LD H,B` (R101). -/
def execLdHB (s : State) : Host.Outcome State Fault Refusal := .next (ldRegReg .h .b s)

/-- `LD H,C` (R101). -/
def execLdHC (s : State) : Host.Outcome State Fault Refusal := .next (ldRegReg .h .c s)

/-- `LD H,D` (R101). -/
def execLdHD (s : State) : Host.Outcome State Fault Refusal := .next (ldRegReg .h .d s)

/-- `LD H,E` (R101). -/
def execLdHE (s : State) : Host.Outcome State Fault Refusal := .next (ldRegReg .h .e s)

/-- `LD H,H` (R101). -/
def execLdHH (s : State) : Host.Outcome State Fault Refusal := .next (ldRegReg .h .h s)

/-- `LD H,L` (R101). -/
def execLdHL (s : State) : Host.Outcome State Fault Refusal := .next (ldRegReg .h .l s)

/-- `LD H,(HL)` (R102). -/
def execLdHAtHl (s : State) : Host.Outcome State Fault Refusal := .next (ldRegAtHl .h s)

/-- `LD H,A` (R101). -/
def execLdHA (s : State) : Host.Outcome State Fault Refusal := .next (ldRegReg .h .a s)

/-- `LD L,B` (R101). -/
def execLdLB (s : State) : Host.Outcome State Fault Refusal := .next (ldRegReg .l .b s)

/-- `LD L,C` (R101). -/
def execLdLC (s : State) : Host.Outcome State Fault Refusal := .next (ldRegReg .l .c s)

/-- `LD L,D` (R101). -/
def execLdLD (s : State) : Host.Outcome State Fault Refusal := .next (ldRegReg .l .d s)

/-- `LD L,E` (R101). -/
def execLdLE (s : State) : Host.Outcome State Fault Refusal := .next (ldRegReg .l .e s)

/-- `LD L,H` (R101). -/
def execLdLH (s : State) : Host.Outcome State Fault Refusal := .next (ldRegReg .l .h s)

/-- `LD L,L` (R101). -/
def execLdLL (s : State) : Host.Outcome State Fault Refusal := .next (ldRegReg .l .l s)

/-- `LD L,(HL)` (R102). -/
def execLdLAtHl (s : State) : Host.Outcome State Fault Refusal := .next (ldRegAtHl .l s)

/-- `LD L,A` (R101). -/
def execLdLA (s : State) : Host.Outcome State Fault Refusal := .next (ldRegReg .l .a s)

/-- `LD (HL),B` (R103). -/
def execLdAtHlB (s : State) : Host.Outcome State Fault Refusal := .next (ldAtHlReg .b s)

/-- `LD (HL),C` (R103). -/
def execLdAtHlC (s : State) : Host.Outcome State Fault Refusal := .next (ldAtHlReg .c s)

/-- `LD (HL),D` (R103). -/
def execLdAtHlD (s : State) : Host.Outcome State Fault Refusal := .next (ldAtHlReg .d s)

/-- `LD (HL),E` (R103). -/
def execLdAtHlE (s : State) : Host.Outcome State Fault Refusal := .next (ldAtHlReg .e s)

/-- `LD (HL),H` (R103). -/
def execLdAtHlH (s : State) : Host.Outcome State Fault Refusal := .next (ldAtHlReg .h s)

/-- `LD (HL),L` (R103). -/
def execLdAtHlL (s : State) : Host.Outcome State Fault Refusal := .next (ldAtHlReg .l s)

/-- `LD (HL),A` (R103). -/
def execLdAtHlA (s : State) : Host.Outcome State Fault Refusal := .next (ldAtHlReg .a s)

/-- `LD A,B` (R101). -/
def execLdAB (s : State) : Host.Outcome State Fault Refusal := .next (ldRegReg .a .b s)

/-- `LD A,C` (R101). -/
def execLdAC (s : State) : Host.Outcome State Fault Refusal := .next (ldRegReg .a .c s)

/-- `LD A,D` (R101). -/
def execLdAD (s : State) : Host.Outcome State Fault Refusal := .next (ldRegReg .a .d s)

/-- `LD A,E` (R101). -/
def execLdAE (s : State) : Host.Outcome State Fault Refusal := .next (ldRegReg .a .e s)

/-- `LD A,H` (R101). -/
def execLdAH (s : State) : Host.Outcome State Fault Refusal := .next (ldRegReg .a .h s)

/-- `LD A,L` (R101). -/
def execLdAL (s : State) : Host.Outcome State Fault Refusal := .next (ldRegReg .a .l s)

/-- `LD A,(HL)` (R102). -/
def execLdAAtHl (s : State) : Host.Outcome State Fault Refusal := .next (ldRegAtHl .a s)

/-- `LD A,A` (R101). -/
def execLdAA (s : State) : Host.Outcome State Fault Refusal := .next (ldRegReg .a .a s)

/-- `LDH (n),A` (R110). -/
def execLdhAtNA (n : Byte) (s : State) : Host.Outcome State Fault Refusal := .next (storeAHigh n s)

/-- `LDH A,(n)` (R111). -/
def execLdhAAtN (n : Byte) (s : State) : Host.Outcome State Fault Refusal := .next (loadAHigh n s)

/-- `LD (nn),A` (R112). -/
def execLdAtNnA (nn : Word) (s : State) : Host.Outcome State Fault Refusal := .next (storeAAbs nn s)

/-- `LD A,(nn)` (R113). -/
def execLdAAtNn (nn : Word) (s : State) : Host.Outcome State Fault Refusal := .next (loadAAbs nn s)

/-- `LD SP,HL` (R105). -/
def execLdSpHl (s : State) : Host.Outcome State Fault Refusal := .next (ldSpFromHl s)

end Sys2Proof.Machine
end

