-- ==== Sys2Proof/Machine/Stack.lean ====
section
/-! DEFINITION. PUSH and POP (44_stack.md R170, R171): the shared operations, then one meaning per instruction. -/

namespace Sys2Proof.Machine

/-- `PUSH rr` (R170). -/
def pushReg16 (rr : Reg16) (s : State) : State := (s.advance 1).push16 (s.reg16 rr)

/-- `POP rr` (R171). POP AF clears F[3:0] (the spec's D7). -/
def popReg16 (rr : Reg16) (s : State) : State :=
  let (v, t) := (s.advance 1).pop16
  match rr with
  | .af => (t.setReg .a (hiByte v)).setReg .f (loByte v &&& 0xF0)
  | .bc => t.setReg16 .bc v
  | .de => t.setReg16 .de v
  | .hl => t.setReg16 .hl v
  | .sp => t.setReg16 .sp v

/-- `POP BC` (R171). -/
def execPopBc (s : State) : Host.Outcome State Fault Refusal := .next (popReg16 .bc s)

/-- `PUSH BC` (R170). -/
def execPushBc (s : State) : Host.Outcome State Fault Refusal := .next (pushReg16 .bc s)

/-- `POP DE` (R171). -/
def execPopDe (s : State) : Host.Outcome State Fault Refusal := .next (popReg16 .de s)

/-- `PUSH DE` (R170). -/
def execPushDe (s : State) : Host.Outcome State Fault Refusal := .next (pushReg16 .de s)

/-- `POP HL` (R171). -/
def execPopHl (s : State) : Host.Outcome State Fault Refusal := .next (popReg16 .hl s)

/-- `PUSH HL` (R170). -/
def execPushHl (s : State) : Host.Outcome State Fault Refusal := .next (pushReg16 .hl s)

/-- `POP AF` (R171). -/
def execPopAf (s : State) : Host.Outcome State Fault Refusal := .next (popReg16 .af s)

/-- `PUSH AF` (R170). -/
def execPushAf (s : State) : Host.Outcome State Fault Refusal := .next (pushReg16 .af s)

end Sys2Proof.Machine
end

