-- ==== Sys2Proof/Machine/Stubs.lean ====
section
/-! DEFINITION. NOP, STOP, HALT, EI and DI (46_control_stubs.md R190 to R194). -/

namespace Sys2Proof.Machine

/-- `NOP` (R190): "only the fetch's `pc <- a0 + 1`". -/
def nopOp (s : State) : State := s.advance 1

/-- `STOP` (R191): a no-op of one byte; "The run state stays Running" (the spec's D5). -/
def stopOp (s : State) : State := s.advance 1

/-- `HALT` (R192): Halted, with the address of the HALT byte; PC stays past it (the spec's D4). -/
def haltOp (s : State) : State := (s.advance 1).enterHalted (.haltInstruction s.pc)

/-- `EI` (R193): `MemWrite(0xFFFF, 1, 0x01)` (the spec's D6). -/
def enableInterrupts (s : State) : State := (s.advance 1).writeMem ieAddr 0x01

/-- `DI` (R194): `MemWrite(0xFFFF, 1, 0x00)` (the spec's D6). -/
def disableInterrupts (s : State) : State := (s.advance 1).writeMem ieAddr 0x00

/-- `NOP` (R190). -/
def execNop (s : State) : Host.Outcome State Fault Refusal := .next (nopOp s)

/-- `STOP` (R191). -/
def execStop (s : State) : Host.Outcome State Fault Refusal := .next (stopOp s)

/-- `HALT` (R192). -/
def execHalt (s : State) : Host.Outcome State Fault Refusal := .next (haltOp s)

/-- `DI` (R194). -/
def execDi (s : State) : Host.Outcome State Fault Refusal := .next (disableInterrupts s)

/-- `EI` (R193). -/
def execEi (s : State) : Host.Outcome State Fault Refusal := .next (enableInterrupts s)

end Sys2Proof.Machine
end

