-- ==== Sys2Proof/Machine/Step.lean ====
section
/-! DEFINITION. One step of the engine (10_state.md R33, R34) and the host's way of placing one instruction. -/

namespace Sys2Proof.Machine

/-- `step()` (R33, R34): in Halted nothing changes; in Running the bytes at PC are decoded and the instruction is executed,
or, for a byte that is not in the primary table, the decode failure is raised with PC past that byte and no immediate
fetched (R220). The Bool that the spec's `step()` returns is `State.continues` of the next state. -/
def step (s : State) : Host.Outcome State Fault Refusal :=
  match s.run with
  | .halted => .next s
  | .running =>
    let (op, b1, b2) := s.fetchWindow
    match decodeWindow op b1 b2 with
    | some i => exec i s
    | none => .next ((s.advance 1).raiseDecodeFailure .primary op s.pc)

/-- The instruction that the table numbers as `w` in `nbits` bits, stored where the next step fetches, which is PC; a fetch
happens only in Running, so a halted engine is set running, with no report (log 6). -/
def State.withFetchWord (s : State) (nbits w : Nat) : State :=
  let (b0, b1, b2) := tableBytes nbits w
  { (((s.writeMem s.pc b0).writeMem (s.pc + 1) b1).writeMem (s.pc + 2) b2) with run := .running, report := .none }

end Sys2Proof.Machine
end

