-- ==== Sys2Proof/Machine/Assembly.lean ====
section
/-! DEFINITION. The assembler spelling of the spec (30_encoding.md R71, 92_eei_decisions.md D22; numbers as in R10) and the
operand of a JR with a label (R72). Nothing here is read by the machine. -/

namespace Sys2Proof.Machine

/-- The hexadecimal digits of R10. -/
def hexDigits : List String := ["0", "1", "2", "3", "4", "5", "6", "7", "8", "9", "A", "B", "C", "D", "E", "F"]

def hexByteDigits (v : Byte) : String := hexDigits.getD (v.toNat / 16) "" ++ hexDigits.getD (v.toNat % 16) ""

/-- `0xNN`. -/
def asmByte (v : Byte) : String := "0x" ++ hexByteDigits v

/-- `0xNNNN`. -/
def asmWord (v : Word) : String := "0x" ++ hexByteDigits (hiByte v) ++ hexByteDigits (loByte v)

/-- The signed offset of a JR in decimal. -/
def asmOffset (e : Byte) : String := toString e.toInt

/-- R72: "A label operand of `JR` is assembled as `e = label - (a + 2)` where a is the JR's address, and must lie in
-128..127"; `none` outside that range. R72 does not say how the difference is taken where the reach wraps at 0xFFFF. DEDUCED,
the model's reading (log 14): modulo 0x10000, as a signed word, so that a label that a JR reaches by wrap (R152) is assembled
to the offset that reaches it. -/
def jrOffset (label a : Word) : Option Byte :=
  let e := (label - (a + 2)).toInt
  if -128 ≤ e ∧ e ≤ 127 then some (BitVec.ofInt 8 e) else none

/-- The spelling of an instruction (R71). -/
def asm : Instr → String
  | .nop => "NOP"
  | .ldBcNn nn => "LD BC," ++ asmWord nn
  | .ldDeNn nn => "LD DE," ++ asmWord nn
  | .ldHlNn nn => "LD HL," ++ asmWord nn
  | .ldSpNn nn => "LD SP," ++ asmWord nn
  | .ldAtBcA => "LD (BC),A"
  | .ldAtDeA => "LD (DE),A"
  | .ldAtHlIncA => "LD (HL+),A"
  | .ldAtHlDecA => "LD (HL-),A"
  | .incBc => "INC BC"
  | .decBc => "DEC BC"
  | .addHlBc => "ADD HL,BC"
  | .incDe => "INC DE"
  | .decDe => "DEC DE"
  | .addHlDe => "ADD HL,DE"
  | .incHl => "INC HL"
  | .decHl => "DEC HL"
  | .addHlHl => "ADD HL,HL"
  | .incSp => "INC SP"
  | .decSp => "DEC SP"
  | .addHlSp => "ADD HL,SP"
  | .incB => "INC B"
  | .decB => "DEC B"
  | .ldBN n => "LD B," ++ asmByte n
  | .incC => "INC C"
  | .decC => "DEC C"
  | .ldCN n => "LD C," ++ asmByte n
  | .incD => "INC D"
  | .decD => "DEC D"
  | .ldDN n => "LD D," ++ asmByte n
  | .incE => "INC E"
  | .decE => "DEC E"
  | .ldEN n => "LD E," ++ asmByte n
  | .incH => "INC H"
  | .decH => "DEC H"
  | .ldHN n => "LD H," ++ asmByte n
  | .incL => "INC L"
  | .decL => "DEC L"
  | .ldLN n => "LD L," ++ asmByte n
  | .incA => "INC A"
  | .decA => "DEC A"
  | .ldAN n => "LD A," ++ asmByte n
  | .stop => "STOP"
  | .jr e => "JR " ++ asmOffset e
  | .jrNz e => "JR NZ," ++ asmOffset e
  | .jrZ e => "JR Z," ++ asmOffset e
  | .jrNc e => "JR NC," ++ asmOffset e
  | .jrC e => "JR C," ++ asmOffset e
  | .ldBB => "LD B,B"
  | .ldBC => "LD B,C"
  | .ldBD => "LD B,D"
  | .ldBE => "LD B,E"
  | .ldBH => "LD B,H"
  | .ldBL => "LD B,L"
  | .ldBAtHl => "LD B,(HL)"
  | .ldBA => "LD B,A"
  | .ldCB => "LD C,B"
  | .ldCC => "LD C,C"
  | .ldCD => "LD C,D"
  | .ldCE => "LD C,E"
  | .ldCH => "LD C,H"
  | .ldCL => "LD C,L"
  | .ldCAtHl => "LD C,(HL)"
  | .ldCA => "LD C,A"
  | .ldDB => "LD D,B"
  | .ldDC => "LD D,C"
  | .ldDD => "LD D,D"
  | .ldDE => "LD D,E"
  | .ldDH => "LD D,H"
  | .ldDL => "LD D,L"
  | .ldDAtHl => "LD D,(HL)"
  | .ldDA => "LD D,A"
  | .ldEB => "LD E,B"
  | .ldEC => "LD E,C"
  | .ldED => "LD E,D"
  | .ldEE => "LD E,E"
  | .ldEH => "LD E,H"
  | .ldEL => "LD E,L"
  | .ldEAtHl => "LD E,(HL)"
  | .ldEA => "LD E,A"
  | .ldHB => "LD H,B"
  | .ldHC => "LD H,C"
  | .ldHD => "LD H,D"
  | .ldHE => "LD H,E"
  | .ldHH => "LD H,H"
  | .ldHL => "LD H,L"
  | .ldHAtHl => "LD H,(HL)"
  | .ldHA => "LD H,A"
  | .ldLB => "LD L,B"
  | .ldLC => "LD L,C"
  | .ldLD => "LD L,D"
  | .ldLE => "LD L,E"
  | .ldLH => "LD L,H"
  | .ldLL => "LD L,L"
  | .ldLAtHl => "LD L,(HL)"
  | .ldLA => "LD L,A"
  | .ldAtHlB => "LD (HL),B"
  | .ldAtHlC => "LD (HL),C"
  | .ldAtHlD => "LD (HL),D"
  | .ldAtHlE => "LD (HL),E"
  | .ldAtHlH => "LD (HL),H"
  | .ldAtHlL => "LD (HL),L"
  | .halt => "HALT"
  | .ldAtHlA => "LD (HL),A"
  | .ldAB => "LD A,B"
  | .ldAC => "LD A,C"
  | .ldAD => "LD A,D"
  | .ldAE => "LD A,E"
  | .ldAH => "LD A,H"
  | .ldAL => "LD A,L"
  | .ldAAtHl => "LD A,(HL)"
  | .ldAA => "LD A,A"
  | .addB => "ADD A,B"
  | .addC => "ADD A,C"
  | .addD => "ADD A,D"
  | .addE => "ADD A,E"
  | .addH => "ADD A,H"
  | .addL => "ADD A,L"
  | .addAtHl => "ADD A,(HL)"
  | .addA => "ADD A,A"
  | .addN n => "ADD A," ++ asmByte n
  | .subB => "SUB B"
  | .subC => "SUB C"
  | .subD => "SUB D"
  | .subE => "SUB E"
  | .subH => "SUB H"
  | .subL => "SUB L"
  | .subAtHl => "SUB (HL)"
  | .subA => "SUB A"
  | .subN n => "SUB " ++ asmByte n
  | .andB => "AND B"
  | .andC => "AND C"
  | .andD => "AND D"
  | .andE => "AND E"
  | .andH => "AND H"
  | .andL => "AND L"
  | .andAtHl => "AND (HL)"
  | .andA => "AND A"
  | .andN n => "AND " ++ asmByte n
  | .xorB => "XOR B"
  | .xorC => "XOR C"
  | .xorD => "XOR D"
  | .xorE => "XOR E"
  | .xorH => "XOR H"
  | .xorL => "XOR L"
  | .xorAtHl => "XOR (HL)"
  | .xorA => "XOR A"
  | .xorN n => "XOR " ++ asmByte n
  | .orB => "OR B"
  | .orC => "OR C"
  | .orD => "OR D"
  | .orE => "OR E"
  | .orH => "OR H"
  | .orL => "OR L"
  | .orAtHl => "OR (HL)"
  | .orA => "OR A"
  | .orN n => "OR " ++ asmByte n
  | .cpB => "CP B"
  | .cpC => "CP C"
  | .cpD => "CP D"
  | .cpE => "CP E"
  | .cpH => "CP H"
  | .cpL => "CP L"
  | .cpAtHl => "CP (HL)"
  | .cpA => "CP A"
  | .cpN n => "CP " ++ asmByte n
  | .retNz => "RET NZ"
  | .jpNz nn => "JP NZ," ++ asmWord nn
  | .callNz nn => "CALL NZ," ++ asmWord nn
  | .retZ => "RET Z"
  | .jpZ nn => "JP Z," ++ asmWord nn
  | .callZ nn => "CALL Z," ++ asmWord nn
  | .retNc => "RET NC"
  | .jpNc nn => "JP NC," ++ asmWord nn
  | .callNc nn => "CALL NC," ++ asmWord nn
  | .retC => "RET C"
  | .jpC nn => "JP C," ++ asmWord nn
  | .callC nn => "CALL C," ++ asmWord nn
  | .popBc => "POP BC"
  | .pushBc => "PUSH BC"
  | .popDe => "POP DE"
  | .pushDe => "PUSH DE"
  | .popHl => "POP HL"
  | .pushHl => "PUSH HL"
  | .popAf => "POP AF"
  | .pushAf => "PUSH AF"
  | .jp nn => "JP " ++ asmWord nn
  | .ret => "RET"
  | .call nn => "CALL " ++ asmWord nn
  | .rst00 => "RST 0x00"
  | .rst08 => "RST 0x08"
  | .rst10 => "RST 0x10"
  | .rst18 => "RST 0x18"
  | .rst20 => "RST 0x20"
  | .rst28 => "RST 0x28"
  | .rst30 => "RST 0x30"
  | .rst38 => "RST 0x38"
  | .prefixCb sub => "PREFIX CB " ++ asmByte sub
  | .ldhAtNA n => "LDH (" ++ asmByte n ++ "),A"
  | .ldhAAtN n => "LDH A,(" ++ asmByte n ++ ")"
  | .ldAtNnA nn => "LD (" ++ asmWord nn ++ "),A"
  | .ldAAtNn nn => "LD A,(" ++ asmWord nn ++ ")"
  | .ldSpHl => "LD SP,HL"
  | .di => "DI"
  | .ei => "EI"
  | .swapB => "SWAP B"
  | .swapC => "SWAP C"
  | .swapD => "SWAP D"
  | .swapE => "SWAP E"
  | .swapH => "SWAP H"
  | .swapL => "SWAP L"
  | .swapAtHl => "SWAP (HL)"
  | .swapA => "SWAP A"
  | .res0B => "RES 0,B"
  | .res0C => "RES 0,C"
  | .res0D => "RES 0,D"
  | .res0E => "RES 0,E"
  | .res0H => "RES 0,H"
  | .res0L => "RES 0,L"
  | .res0AtHl => "RES 0,(HL)"
  | .res0A => "RES 0,A"
  | .res1B => "RES 1,B"
  | .res1C => "RES 1,C"
  | .res1D => "RES 1,D"
  | .res1E => "RES 1,E"
  | .res1H => "RES 1,H"
  | .res1L => "RES 1,L"
  | .res1AtHl => "RES 1,(HL)"
  | .res1A => "RES 1,A"
  | .res2B => "RES 2,B"
  | .res2C => "RES 2,C"
  | .res2D => "RES 2,D"
  | .res2E => "RES 2,E"
  | .res2H => "RES 2,H"
  | .res2L => "RES 2,L"
  | .res2AtHl => "RES 2,(HL)"
  | .res2A => "RES 2,A"
  | .res3B => "RES 3,B"
  | .res3C => "RES 3,C"
  | .res3D => "RES 3,D"
  | .res3E => "RES 3,E"
  | .res3H => "RES 3,H"
  | .res3L => "RES 3,L"
  | .res3AtHl => "RES 3,(HL)"
  | .res3A => "RES 3,A"
  | .res4B => "RES 4,B"
  | .res4C => "RES 4,C"
  | .res4D => "RES 4,D"
  | .res4E => "RES 4,E"
  | .res4H => "RES 4,H"
  | .res4L => "RES 4,L"
  | .res4AtHl => "RES 4,(HL)"
  | .res4A => "RES 4,A"
  | .res5B => "RES 5,B"
  | .res5C => "RES 5,C"
  | .res5D => "RES 5,D"
  | .res5E => "RES 5,E"
  | .res5H => "RES 5,H"
  | .res5L => "RES 5,L"
  | .res5AtHl => "RES 5,(HL)"
  | .res5A => "RES 5,A"
  | .res6B => "RES 6,B"
  | .res6C => "RES 6,C"
  | .res6D => "RES 6,D"
  | .res6E => "RES 6,E"
  | .res6H => "RES 6,H"
  | .res6L => "RES 6,L"
  | .res6AtHl => "RES 6,(HL)"
  | .res6A => "RES 6,A"
  | .res7B => "RES 7,B"
  | .res7C => "RES 7,C"
  | .res7D => "RES 7,D"
  | .res7E => "RES 7,E"
  | .res7H => "RES 7,H"
  | .res7L => "RES 7,L"
  | .res7AtHl => "RES 7,(HL)"
  | .res7A => "RES 7,A"

end Sys2Proof.Machine
end

