-- ==== Sys2Proof/Config.lean ====
section
/-! DEFINITION. The parameters that the source leaves to the implementation (00_scope.md R9; log 8): arguments of the
functions that use them (the image load, the renderer, the driver), never of `step`. The spec leaves no VALUE open
(93_implementation_defined.md), so this file holds no free value. -/

namespace Sys2Proof

/-- `IMAGE_CAP` (R9, 90_conflicts.md C3): "0x4000 or 0x8000". -/
inductive ImageCap where
  | cap4000
  | cap8000
deriving DecidableEq, Repr

def ImageCap.bytes : ImageCap → Nat
  | .cap4000 => 0x4000
  | .cap8000 => 0x8000

/-- The four parameters of R9. -/
structure Config where
  /-- `IMAGE_CAP`: how many bytes of the image the load copies (R251). -/
  imageCap : ImageCap
  /-- `BG_MAP_BASE`: the address of the tile map (R201). -/
  bgMapBase : Word
  /-- `TILE_DATA_BASE`: the address of tile 0's record (R202). -/
  tileDataBase : Word
  /-- `RENDER_INTERVAL`: the driver's steps between two render iterations (R232). -/
  renderInterval : Nat
deriving DecidableEq, Repr

/-- The defaults of R9. -/
def Config.default : Config where
  imageCap := .cap8000
  bgMapBase := 0x9800
  tileDataBase := 0x8000
  renderInterval := 511

/-- The legal values of R9. -/
def Config.legal (cfg : Config) : Bool :=
  decide (cfg.bgMapBase.toNat + 0x3FF ≤ 0xFFFF) && decide (cfg.tileDataBase.toNat + 0xFFF ≤ 0xFFFF) &&
    decide (0 < cfg.renderInterval)

end Sys2Proof
end

