-- ==== Sys2Proof/Machine/Renderer.lean ====
section
/-! DEFINITION. The tile renderer (48_tile_renderer.md): one pass over the whole buffer, a function of memory and of the two
base addresses. -/

namespace Sys2Proof.Machine

/-- R201: the byte at `BG_MAP_BASE + 32 * ty + tx`. -/
def tileIndex (cfg : Config) (m : Memory) (tx ty : Nat) : Byte := m.read (cfg.bgMapBase + BitVec.ofNat 16 (32 * ty + tx))

/-- R202: the address `TILE_DATA_BASE + 16 * i + 2 * r` of row r of tile i, its low plane; the high plane is the next byte. -/
def tileRowAddr (cfg : Config) (i : Byte) (r : Nat) : Word :=
  cfg.tileDataBase + BitVec.ofNat 16 (16 * i.toNat + 2 * r)

/-- R204: the 2-bit colour index of pixel column c (0 to 7, leftmost 0) of a row with these planes. -/
def colourIndex (lo hi : Byte) (c : Nat) : ColourIndex :=
  (((lo >>> (7 - c)) &&& 1) ||| (((hi >>> (7 - c)) &&& 1) <<< 1)).setWidth 2

/-- The pixel of column x and line y (R203: x = 8 * tx + c, y = 8 * ty + r). -/
def renderPixel (cfg : Config) (m : Memory) (x y : Nat) : ColourIndex :=
  let row := tileRowAddr cfg (tileIndex cfg m (x / 8) (y / 8)) (y % 8)
  colourIndex (m.read row) (m.read (row + 1)) (x % 8)

/-- `render()` (R203): the whole buffer overwritten, nothing else changed (R206). The buffer it returns is the `pixels` of
the next state. -/
def render (cfg : Config) (s : State) : State :=
  { s with pixels := Sparse.tabulate (fun k => renderPixel cfg s.mem (k / 256) (k % 256)) 0 0x10000 }

/-- The fixed palette (R205); the buffer holds the index, the shade is the host's concern. -/
inductive Shade where
  | black | darkGray | lightGray | white
deriving DecidableEq, Repr

def shade (i : ColourIndex) : Shade :=
  match i.toNat with
  | 0 => .black
  | 1 => .darkGray
  | 2 => .lightGray
  | _ => .white

end Sys2Proof.Machine
end

