-- ==== Sys2Proof/Machine/HostActions.lean ====
section
/-! DEFINITION. What the host may do to the CORE, and nothing else (60_exceptions.md R234): reset with an image, step, render,
advance the scanline register; and the driver's loop (R232). The schedule is the host's, so none of this is in `step`
(log 5). -/

namespace Sys2Proof.Machine

/-! ## Reset (R250, R251) -/

/-- The bytes of an image stored from an address on. -/
def loadBytes (m : Memory) (addr : Nat) : List Byte → Memory
  | [] => m
  | v :: rest => loadBytes (m.write (BitVec.ofNat 16 addr) v) (addr + 1) rest

/-- `load_image(image)` (R251): "raw byte copy from a file into memory starting at address 0x0000", truncated at IMAGE_CAP. -/
def loadImage (cfg : Config) (m : Memory) (image : List Byte) : Memory := loadBytes m 0 (image.take cfg.imageCap.bytes)

/-- `reset(image)` (R250). `State.reset` is the reset with an empty image (log 7). -/
def State.resetWith (cfg : Config) (image : List Byte) : State :=
  { State.reset with mem := loadImage cfg State.reset.mem image }

/-- The start of a run (R236): "without a successful image load there is no `reset` and no step"; `none` is a file that is
missing or unreadable. -/
def State.boot (cfg : Config) (file : Option (List Byte)) : Option State := file.map (State.resetWith cfg)

/-! ## The scanline register (R233) -/

/-- The advance "reads the byte as stored": `(v + 1) mod 154`. -/
def nextScanline (v : Byte) : Byte := BitVec.ofNat 8 ((v.toNat + 1) % 154)

/-- `advance_scanline()` (R233). -/
def advanceScanline (s : State) : State := s.writeMem scanlineAddr (nextScanline (s.readMem scanlineAddr))

/-! ## Host calls (R37, R234) -/

/-- The calls of R234 that change state. -/
inductive HostCall where
  | reset (image : List Byte)
  | step
  | render
  | advanceScanline
deriving DecidableEq, Repr

/-- One host call; calls are serialised (R37). -/
def callHost (cfg : Config) (call : HostCall) (s : State) : Host.Outcome State Fault Refusal :=
  match call with
  | .reset image => .next (State.resetWith cfg image)
  | .step => step s
  | .render => .next (render cfg s)
  | .advanceScanline => .next (advanceScanline s)

/-! ## The driver's loop (R232) -/

/-- The driver between two iterations: the engine and renderer it owns, and `k`, the steps since the last render. -/
structure Driver where
  core : State
  k : Nat
deriving DecidableEq, Repr

/-- `k <- 0` (R232): the driver before the first iteration of its loop, with the core that it owns. -/
def Driver.start (core : State) : Driver := { core := core, k := 0 }

/-- How an iteration ended. -/
inductive LoopEvent where
  /-- the display sink signalled quit: the loop stops -/
  | quit
  /-- a render iteration: the frame presented is the core's pixel buffer -/
  | presented
  /-- a step after which the engine is Running -/
  | stepped
  /-- a step that returned false: the loop stops -/
  | halted
deriving DecidableEq, Repr

/-- One iteration of R232's loop; `poll` is the display sink's answer, false for quit. "A render iteration performs no
step." -/
def Driver.iterate (cfg : Config) (poll : Bool) (d : Driver) : Host.Outcome (Driver × LoopEvent) Fault Refusal :=
  if poll = false then .next (d, .quit)
  else if d.k = cfg.renderInterval then .next ({ core := advanceScanline (render cfg d.core), k := 0 }, .presented)
  else
    match step d.core with
    | .next s => .next ({ core := s, k := d.k + 1 }, if s.continues then .stepped else .halted)
    | .fault r => .fault r
    | .refused r => .refused r

/-- The loop of R232 from a driver on, over the sink's answers: it stops at quit, when the engine enters Halted, or where the
answers end. -/
def Driver.loop (cfg : Config) : List Bool → Driver → Host.Outcome Driver Fault Refusal
  | [], d => .next d
  | poll :: polls, d =>
    match d.iterate cfg poll with
    | .next (e, .quit) => .next e
    | .next (e, .halted) => .next e
    | .next (e, .presented) => Driver.loop cfg polls e
    | .next (e, .stepped) => Driver.loop cfg polls e
    | .fault r => .fault r
    | .refused r => .refused r

/-- The driver of R232 whole: `k <- 0`, then the loop. -/
def Driver.run (cfg : Config) (polls : List Bool) (core : State) : Host.Outcome Driver Fault Refusal :=
  (Driver.start core).loop cfg polls

end Sys2Proof.Machine
end

