-- ==== Sys2Proof/Safety.lean ====
section
/-! DEFINITION. The terms the statements use: what a frame says, the invariant, the reachable states, and what counts as a
safe run. -/

namespace Sys2Proof.Machine

/-! ## Frames -/

/-- Every byte of memory reads as before. -/
def SameMemory (s t : State) : Prop := ∀ x : Word, t.readMem x = s.readMem x

/-- Every byte of memory outside the listed addresses reads as before. -/
def SameMemoryExcept (addrs : List Word) (s t : State) : Prop := ∀ x : Word, x ∉ addrs → t.readMem x = s.readMem x

/-- Every 8-bit register outside the list holds what it held; F is one of them. -/
def SameRegsExcept (rs : List Reg8) (s t : State) : Prop := ∀ r : Reg8, r ∉ rs → t.reg r = s.reg r

/-- The run state, the halt report and the pixel buffer are as before. -/
def SameEngine (s t : State) : Prop := t.run = s.run ∧ t.report = s.report ∧ t.pixels = s.pixels

/-- The four flags after an instruction that writes them all, and F[3:0] as before. -/
def FlagsAre (s t : State) (z n h c : Bool) : Prop :=
  t.flag .z = z ∧ t.flag .n = n ∧ t.flag .h = h ∧ t.flag .c = c ∧ t.lowF = s.lowF

/-- The 8-bit registers that a 16-bit register is a view of (R21); SP has no halves (R22). -/
def halves : Reg16 → List Reg8
  | .af => [.a, .f]
  | .bc => [.b, .c]
  | .de => [.d, .e]
  | .hl => [.h, .l]
  | .sp => []

/-- The register that an operand is, if it is one. -/
def Operand8.regs : Operand8 → List Reg8
  | .reg r => [r]
  | .atHl => []

/-- The address that a write to an operand stores to, if it is the memory operand (R16). -/
def Operand8.addrs (o : Operand8) (s : State) : List Word :=
  match o with
  | .reg _ => []
  | .atHl => [s.reg16 .hl]

/-- The address of the byte after the whole instruction (R23). -/
def State.pcAfter (s : State) (i : Instr) : Word := s.pc + BitVec.ofNat 16 (encode i).length

/-! ## The invariant -/

/-- What holds in every reachable state: the store and the pixel buffer are in canonical form, F[3:0] = 0 (R26), and there is
a halt report exactly when the engine is Halted (R30). -/
def State.Inv (s : State) : Prop :=
  s.mem.wf = true ∧ s.pixels.wf = true ∧ s.lowF = 0 ∧ (s.run = .running ↔ s.report = .none)

/-- The states that the host's calls can lead to (R234: "What the host may do to the CORE, and nothing else"), from a reset
with any image. -/
inductive Reachable (cfg : Config) : State → Prop where
  | reset (image : List Byte) : Reachable cfg (State.resetWith cfg image)
  | call (c : HostCall) (s t : State) : Reachable cfg s → callHost cfg c s = .next t → Reachable cfg t

/-! ## Safe runs -/

/-- A state is safe while no decode failure, the only exceptional event (R220), has stopped the engine. -/
def State.Safe (s : State) : Prop := ∀ table byte addr, s.report ≠ .decodeFailure table byte addr

/-- A run ended by itself with a HALT (R235). -/
def State.EndedByHalt (s : State) : Prop := s.run = .halted ∧ ∃ addr, s.report = .haltInstruction addr

end Sys2Proof.Machine
end

