-- ==== Sys2Proof/Certificates/Slice0/Obligations.lean ====
section
/-! DEFINITION. The statements for the provers. The lists of `Sys2Proof.Rows` name, for each shape of instruction, its
constructors with the operands that the spec's mnemonic gives each of them. -/

namespace Sys2Proof.Rows

open Sys2Proof.Machine

/-- LD r,n (R100). -/
def ldRegImm (n : Byte) : List (Instr × Reg8) :=
  [(.ldBN n, .b), (.ldCN n, .c), (.ldDN n, .d), (.ldEN n, .e), (.ldHN n, .h), (.ldLN n, .l), (.ldAN n, .a)]

/-- LD d,s (R101). -/
def ldRegReg : List (Instr × Reg8 × Reg8) :=
  [(.ldBB, .b, .b), (.ldBC, .b, .c), (.ldBD, .b, .d), (.ldBE, .b, .e), (.ldBH, .b, .h), (.ldBL, .b, .l),
   (.ldBA, .b, .a), (.ldCB, .c, .b), (.ldCC, .c, .c), (.ldCD, .c, .d), (.ldCE, .c, .e), (.ldCH, .c, .h),
   (.ldCL, .c, .l), (.ldCA, .c, .a), (.ldDB, .d, .b), (.ldDC, .d, .c), (.ldDD, .d, .d), (.ldDE, .d, .e),
   (.ldDH, .d, .h), (.ldDL, .d, .l), (.ldDA, .d, .a), (.ldEB, .e, .b), (.ldEC, .e, .c), (.ldED, .e, .d),
   (.ldEE, .e, .e), (.ldEH, .e, .h), (.ldEL, .e, .l), (.ldEA, .e, .a), (.ldHB, .h, .b), (.ldHC, .h, .c),
   (.ldHD, .h, .d), (.ldHE, .h, .e), (.ldHH, .h, .h), (.ldHL, .h, .l), (.ldHA, .h, .a), (.ldLB, .l, .b),
   (.ldLC, .l, .c), (.ldLD, .l, .d), (.ldLE, .l, .e), (.ldLH, .l, .h), (.ldLL, .l, .l), (.ldLA, .l, .a),
   (.ldAB, .a, .b), (.ldAC, .a, .c), (.ldAD, .a, .d), (.ldAE, .a, .e), (.ldAH, .a, .h), (.ldAL, .a, .l),
   (.ldAA, .a, .a)]

/-- LD r,(HL) (R102). -/
def ldRegAtHl : List (Instr × Reg8) :=
  [(.ldBAtHl, .b), (.ldCAtHl, .c), (.ldDAtHl, .d), (.ldEAtHl, .e), (.ldHAtHl, .h), (.ldLAtHl, .l), (.ldAAtHl, .a)]

/-- LD (HL),r (R103). -/
def ldAtHlReg : List (Instr × Reg8) :=
  [(.ldAtHlB, .b), (.ldAtHlC, .c), (.ldAtHlD, .d), (.ldAtHlE, .e), (.ldAtHlH, .h), (.ldAtHlL, .l), (.ldAtHlA, .a)]

/-- LD rr,nn (R104). -/
def ldReg16Imm (nn : Word) : List (Instr × Reg16) :=
  [(.ldBcNn nn, .bc), (.ldDeNn nn, .de), (.ldHlNn nn, .hl), (.ldSpNn nn, .sp)]

/-- ADD: seven registers, (HL), an immediate (R120). -/
def addA (n : Byte) : List (Instr × Source) :=
  [(.addB, .reg .b), (.addC, .reg .c), (.addD, .reg .d), (.addE, .reg .e), (.addH, .reg .h), (.addL, .reg .l),
   (.addAtHl, .atHl), (.addA, .reg .a), (.addN n, .imm n)]

/-- SUB: seven registers, (HL), an immediate (R121). -/
def subA (n : Byte) : List (Instr × Source) :=
  [(.subB, .reg .b), (.subC, .reg .c), (.subD, .reg .d), (.subE, .reg .e), (.subH, .reg .h), (.subL, .reg .l),
   (.subAtHl, .atHl), (.subA, .reg .a), (.subN n, .imm n)]

/-- AND: seven registers, (HL), an immediate (R122). -/
def andA (n : Byte) : List (Instr × Source) :=
  [(.andB, .reg .b), (.andC, .reg .c), (.andD, .reg .d), (.andE, .reg .e), (.andH, .reg .h), (.andL, .reg .l),
   (.andAtHl, .atHl), (.andA, .reg .a), (.andN n, .imm n)]

/-- OR: seven registers, (HL), an immediate (R123). -/
def orA (n : Byte) : List (Instr × Source) :=
  [(.orB, .reg .b), (.orC, .reg .c), (.orD, .reg .d), (.orE, .reg .e), (.orH, .reg .h), (.orL, .reg .l),
   (.orAtHl, .atHl), (.orA, .reg .a), (.orN n, .imm n)]

/-- XOR: seven registers, (HL), an immediate (R124). -/
def xorA (n : Byte) : List (Instr × Source) :=
  [(.xorB, .reg .b), (.xorC, .reg .c), (.xorD, .reg .d), (.xorE, .reg .e), (.xorH, .reg .h), (.xorL, .reg .l),
   (.xorAtHl, .atHl), (.xorA, .reg .a), (.xorN n, .imm n)]

/-- CP: seven registers, (HL), an immediate (R125). -/
def cpA (n : Byte) : List (Instr × Source) :=
  [(.cpB, .reg .b), (.cpC, .reg .c), (.cpD, .reg .d), (.cpE, .reg .e), (.cpH, .reg .h), (.cpL, .reg .l),
   (.cpAtHl, .atHl), (.cpA, .reg .a), (.cpN n, .imm n)]

/-- INC r (R126). -/
def incReg : List (Instr × Reg8) :=
  [(.incB, .b), (.incC, .c), (.incD, .d), (.incE, .e), (.incH, .h), (.incL, .l), (.incA, .a)]

/-- DEC r (R127). -/
def decReg : List (Instr × Reg8) :=
  [(.decB, .b), (.decC, .c), (.decD, .d), (.decE, .e), (.decH, .h), (.decL, .l), (.decA, .a)]

/-- INC rr (R140). -/
def incReg16 : List (Instr × Reg16) :=
  [(.incBc, .bc), (.incDe, .de), (.incHl, .hl), (.incSp, .sp)]

/-- DEC rr (R141). -/
def decReg16 : List (Instr × Reg16) :=
  [(.decBc, .bc), (.decDe, .de), (.decHl, .hl), (.decSp, .sp)]

/-- ADD HL,rr (R142). -/
def addHl : List (Instr × Reg16) :=
  [(.addHlBc, .bc), (.addHlDe, .de), (.addHlHl, .hl), (.addHlSp, .sp)]

/-- JP cc (R151): the flag that the condition reads and the value it holds at (R65). -/
def jpIf (nn : Word) : List (Instr × Flag × Bool) :=
  [(.jpNz nn, .z, false), (.jpZ nn, .z, true), (.jpNc nn, .c, false), (.jpC nn, .c, true)]

/-- JR cc (R153): the flag that the condition reads and the value it holds at (R65). -/
def jrIf (e : Byte) : List (Instr × Flag × Bool) :=
  [(.jrNz e, .z, false), (.jrZ e, .z, true), (.jrNc e, .c, false), (.jrC e, .c, true)]

/-- CALL cc (R155): the flag that the condition reads and the value it holds at (R65). -/
def callIf (nn : Word) : List (Instr × Flag × Bool) :=
  [(.callNz nn, .z, false), (.callZ nn, .z, true), (.callNc nn, .c, false), (.callC nn, .c, true)]

/-- RET cc (R157): the flag that the condition reads and the value it holds at (R65). -/
def retIf : List (Instr × Flag × Bool) :=
  [(.retNz, .z, false), (.retZ, .z, true), (.retNc, .c, false), (.retC, .c, true)]

/-- RST v (R158). -/
def rst : List (Instr × Word) :=
  [(.rst00, 0x0000), (.rst08, 0x0008), (.rst10, 0x0010), (.rst18, 0x0018), (.rst20, 0x0020), (.rst28, 0x0028),
   (.rst30, 0x0030), (.rst38, 0x0038)]

/-- PUSH rr (R170). -/
def push : List (Instr × Reg16) :=
  [(.pushBc, .bc), (.pushDe, .de), (.pushHl, .hl), (.pushAf, .af)]

/-- POP of BC, DE and HL (R171). -/
def popPair : List (Instr × Reg16) :=
  [(.popBc, .bc), (.popDe, .de), (.popHl, .hl)]

/-- SWAP s (R180). -/
def swap : List (Instr × Operand8) :=
  [(.swapB, .reg .b), (.swapC, .reg .c), (.swapD, .reg .d), (.swapE, .reg .e), (.swapH, .reg .h),
   (.swapL, .reg .l), (.swapAtHl, .atHl), (.swapA, .reg .a)]

/-- RES b,s (R181). -/
def res : List (Instr × BitVec 3 × Operand8) :=
  [(.res0B, 0, .reg .b), (.res0C, 0, .reg .c), (.res0D, 0, .reg .d), (.res0E, 0, .reg .e), (.res0H, 0, .reg .h),
   (.res0L, 0, .reg .l), (.res0AtHl, 0, .atHl), (.res0A, 0, .reg .a), (.res1B, 1, .reg .b), (.res1C, 1, .reg .c),
   (.res1D, 1, .reg .d), (.res1E, 1, .reg .e), (.res1H, 1, .reg .h), (.res1L, 1, .reg .l), (.res1AtHl, 1, .atHl),
   (.res1A, 1, .reg .a), (.res2B, 2, .reg .b), (.res2C, 2, .reg .c), (.res2D, 2, .reg .d), (.res2E, 2, .reg .e),
   (.res2H, 2, .reg .h), (.res2L, 2, .reg .l), (.res2AtHl, 2, .atHl), (.res2A, 2, .reg .a), (.res3B, 3, .reg .b),
   (.res3C, 3, .reg .c), (.res3D, 3, .reg .d), (.res3E, 3, .reg .e), (.res3H, 3, .reg .h), (.res3L, 3, .reg .l),
   (.res3AtHl, 3, .atHl), (.res3A, 3, .reg .a), (.res4B, 4, .reg .b), (.res4C, 4, .reg .c), (.res4D, 4, .reg .d),
   (.res4E, 4, .reg .e), (.res4H, 4, .reg .h), (.res4L, 4, .reg .l), (.res4AtHl, 4, .atHl), (.res4A, 4, .reg .a),
   (.res5B, 5, .reg .b), (.res5C, 5, .reg .c), (.res5D, 5, .reg .d), (.res5E, 5, .reg .e), (.res5H, 5, .reg .h),
   (.res5L, 5, .reg .l), (.res5AtHl, 5, .atHl), (.res5A, 5, .reg .a), (.res6B, 6, .reg .b), (.res6C, 6, .reg .c),
   (.res6D, 6, .reg .d), (.res6E, 6, .reg .e), (.res6H, 6, .reg .h), (.res6L, 6, .reg .l), (.res6AtHl, 6, .atHl),
   (.res6A, 6, .reg .a), (.res7B, 7, .reg .b), (.res7C, 7, .reg .c), (.res7D, 7, .reg .d), (.res7E, 7, .reg .e),
   (.res7H, 7, .reg .h), (.res7L, 7, .reg .l), (.res7AtHl, 7, .atHl), (.res7A, 7, .reg .a)]

/-- The 51 primary bytes that are not in the table (R66; the cells marked · of R73). -/
def primaryNonMembers : List (Byte) :=
  [0x07, 0x08, 0x0A, 0x0F, 0x17, 0x1A, 0x1F, 0x27, 0x2A, 0x2F, 0x34, 0x35, 0x36, 0x37, 0x3A, 0x3F, 0x88, 0x89,
   0x8A, 0x8B, 0x8C, 0x8D, 0x8E, 0x8F, 0x98, 0x99, 0x9A, 0x9B, 0x9C, 0x9D, 0x9E, 0x9F, 0xCE, 0xD3, 0xD9, 0xDB,
   0xDD, 0xDE, 0xE2, 0xE3, 0xE4, 0xE8, 0xE9, 0xEB, 0xEC, 0xED, 0xF2, 0xF4, 0xF8, 0xFC, 0xFD]

end Sys2Proof.Rows

open Sys2Proof Sys2Proof.Machine

/-- Reset leaves every register and byte 0, PC at 0x0100, Running, no report, a blank pixel buffer (10_state.md section 8 (reset values); 92_eei_decisions.md D16). -/
def Obligations.ResetIsZeroExceptPc : Prop :=
  (∀ r, State.reset.reg r = 0) ∧ State.reset.sp = 0 ∧ State.reset.pc = 0x0100 ∧
    (∀ x, State.reset.readMem x = 0) ∧ State.reset.run = .running ∧ State.reset.report = .none ∧
    ∀ x y, State.reset.pixels.pixel x y = 0

/-- In Running, a step is exec of the instruction that the bytes at PC decode to (10_state.md section 5 (step()); 30_encoding.md section 4 (decode procedure)). -/
def Obligations.StepRunsTheDecodedInstruction : Prop :=
  ∀ (s : State) (i : Instr), s.run = .running →
    decodeWindow (s.readMem s.pc) (s.readMem (s.pc + 1)) (s.readMem (s.pc + 2)) = some i → step s = exec i s

/-- An instruction whose encoding stands at PC is the one the step runs, whatever bytes follow (10_state.md section 5 (step()); 30_encoding.md section 1 (formats); 20_memory.md section 2 (wrap)). -/
def Obligations.StepRunsTheEncodedBytesAtPc : Prop :=
  ∀ (s : State) (i : Instr), s.run = .running → i.wf = true →
    (∀ k, k < (encode i).length → s.readMem (s.pc + BitVec.ofNat 16 k) = (encode i).getD k 0) → step s = exec i s

/-- A primary byte outside the table halts the engine with a decode failure and changes nothing else but PC (60_exceptions.md section 1 (decode failure); 92_eei_decisions.md D1; 92_eei_decisions.md D10). -/
def Obligations.StepOfPrimaryNonMemberHalts : Prop :=
  ∀ (s : State) (op : Byte), s.run = .running → s.readMem s.pc = op → op ∈ Rows.primaryNonMembers →
    ∃ t, step s = .next t ∧ t.run = .halted ∧ t.report = .decodeFailure .primary op s.pc ∧ t.pc = s.pc + 1 ∧
      SameRegsExcept [] s t ∧ t.sp = s.sp ∧ SameMemory s t ∧ t.pixels = s.pixels

/-- PREFIX CB with a sub-opcode outside the prefixed table halts with the sub-opcode and its own address (45_prefixed_bitops.md (PREFIX CB); 60_exceptions.md section 1 (decode failure); 92_eei_decisions.md D2; 92_eei_decisions.md D10). -/
def Obligations.PrefixOfNonMemberHalts : Prop :=
  ∀ (s : State) (sub : Byte), ¬(0x30 ≤ sub ∧ sub ≤ 0x37) → ¬(0x80 ≤ sub ∧ sub ≤ 0xBF) →
    ∃ t, exec (.prefixCb sub) s = .next t ∧ t.run = .halted ∧
      t.report = .decodeFailure .prefixed sub (s.pc + 1) ∧ t.pc = s.pc + 2 ∧
      SameRegsExcept [] s t ∧ t.sp = s.sp ∧ SameMemory s t ∧ t.pixels = s.pixels

/-- PREFIX CB with a member sub-opcode executes the rule of that row (45_prefixed_bitops.md (PREFIX CB); 92_eei_decisions.md D2; notes/assumptions/2.md).
That the two bytes decode to another constructor than prefixCb sub is the model's choice (log 2, DESIGN CHOICE), not
the spec's. -/
def Obligations.PrefixOfMemberRunsItsRule : Prop :=
  ∀ (s : State) (sub b2 : Byte), ((0x30 ≤ sub ∧ sub ≤ 0x37) ∨ (0x80 ≤ sub ∧ sub ≤ 0xBF)) →
    ∃ i t, decodeWindow 0xCB sub b2 = some i ∧ i ≠ .prefixCb sub ∧ exec (.prefixCb sub) s = .next t ∧ exec i s = .next t

/-- A step in Halted changes no state (10_state.md section 5 (step() in Halted); 92_eei_decisions.md D11). -/
def Obligations.HaltedStepChangesNothing : Prop :=
  ∀ s : State, s.run = .halted → step s = .next s

/-- No step ever ends in a fault or a refusal (00_scope.md section 5 (stopping); 60_exceptions.md section 1 (decode failure, cause codes); 93_implementation_defined.md U1, U2; notes/assumptions/12.md).
That a decode failure, which U1 and U2 of 93_implementation_defined.md call a fault, answers a next state (Halted,
with its report) and no Fault is the model's classification (log 12, DEDUCED from R220). -/
def Obligations.StepAlwaysAnswersANextState : Prop :=
  ∀ s : State, ∃ t, step s = .next t

/-- Only the HALT opcode or a byte outside the tables takes the engine out of Running (60_exceptions.md section 1 (cause codes); 10_state.md section 5 (run state); 92_eei_decisions.md D4; 92_eei_decisions.md D10). -/
def Obligations.OnlyHaltOrDecodeFailureLeavesRunning : Prop :=
  ∀ s t : State, s.run = .running → step s = .next t → t.run = .halted →
    (s.readMem s.pc = 0x76 ∧ t.report = .haltInstruction s.pc) ∨
      (s.readMem s.pc ∈ Rows.primaryNonMembers ∧ t.report = .decodeFailure .primary (s.readMem s.pc) s.pc) ∨
      (s.readMem s.pc = 0xCB ∧ isPrefixedMember (s.readMem (s.pc + 1)) = false ∧
        t.report = .decodeFailure .prefixed (s.readMem (s.pc + 1)) (s.pc + 1))

/-- The engine neither reads nor writes the pixel buffer (10_state.md section 6 (pixel buffer); 48_tile_renderer.md (side effects)). -/
def Obligations.PixelBufferIsNotReadByTheEngine : Prop :=
  ∀ (s : State) (p : PixelBuffer), ∃ t, step s = .next t ∧ step { s with pixels := p } = .next { t with pixels := p }

/-- The invariant holds at reset (10_state.md section 8 (reset values); notes/assumptions/10.md; notes/assumptions/11.md).
The canonical forms of memory and of the pixel buffer in State.Inv are the model's representation (log 11 and log 10,
DESIGN CHOICE), not the spec's; F[3:0] = 0, Running and no report are the spec's reset values. -/
def Obligations.ResetSatisfiesTheInvariant : Prop :=
  State.reset.Inv

/-- Every step keeps the invariant (10_state.md section 3 (F[3:0]); 10_state.md section 5 (halt report); notes/assumptions/10.md; notes/assumptions/11.md).
The canonical forms of memory and of the pixel buffer in State.Inv are the model's representation (log 11 and log 10,
DESIGN CHOICE), not the spec's; that F[3:0] stays 0 is an inference the spec marks as its own (10_state.md R26) and
rests on its decision D7 for POP AF; the report follows R30. -/
def Obligations.StepKeepsTheInvariant : Prop :=
  ∀ s t : State, s.Inv → step s = .next t → t.Inv

/-- In every state that host calls can lead to, F[3:0] is zero and the invariant holds (10_state.md section 3 (F[3:0] in every reachable state); 60_exceptions.md section 4 (what the host may do); notes/assumptions/10.md; notes/assumptions/11.md).
The canonical forms of memory and of the pixel buffer in State.Inv are the model's representation (log 11 and log 10,
DESIGN CHOICE), not the spec's; that F[3:0] is 0 in every reachable state is an inference the spec marks as its own
(10_state.md R26). -/
def Obligations.ReachableStatesSatisfyTheInvariant : Prop :=
  ∀ (cfg : Config) (s : State), Reachable cfg s → s.Inv ∧ s.f &&& 0x0F = 0

/-- Decoding the encoding of any well-formed instruction gives it back, whatever bytes follow (30_encoding.md section 1 (formats); 30_encoding.md section 4 (opcode maps)). -/
def Obligations.DecodeOfEncodeIsTheInstruction : Prop :=
  ∀ (i : Instr) (rest : List Byte), i.wf = true → decode (encode i ++ rest) = .ok (i, rest)

/-- Whatever decodes is the encoding of the well-formed instruction it decodes to (30_encoding.md section 3 (table membership); 30_encoding.md section 4 (decode procedure)). -/
def Obligations.EncodeOfDecodeIsTheBytes : Prop :=
  ∀ (bytes rest : List Byte) (i : Instr), decode bytes = .ok (i, rest) → i.wf = true ∧ encode i ++ rest = bytes

/-- A primary byte fails to decode exactly when it is one of the 51 non-members (30_encoding.md section 3 (table membership); 92_eei_decisions.md D1). -/
def Obligations.PrimaryTableHasTheSpecsMembers : Prop :=
  ∀ op b1 b2 : Byte, decodeWindow op b1 b2 = none ↔ op ∈ Rows.primaryNonMembers

/-- The y, z, p and condition fields of every opcode name the operands of its instruction (30_encoding.md section 2 (operand codes); 93_implementation_defined.md GK1). -/
def Obligations.OperandFieldsNameTheOperands : Prop :=
  ∀ (n e : Byte) (nn : Word),
    let op := fun i : Instr => (encode i).getD 0 0
    let sub := fun i : Instr => (encode i).getD 1 0
    let p := fun i : Instr => (op i).extractLsb' 4 2
    let k := fun i : Instr => (op i).extractLsb' 3 2
    let holds := fun (cnd : Cond) (fl : Flag) (v : Bool) => ∀ s : State, s.cond cnd = true ↔ s.flag fl = v
    (∀ row ∈ Rows.ldRegImm n ++ Rows.incReg ++ Rows.decReg, reg8 (fieldY (op row.1)) = .reg row.2) ∧
    (∀ row ∈ Rows.ldRegReg,
      reg8 (fieldY (op row.1)) = .reg row.2.1 ∧ reg8 (fieldZ (op row.1)) = .reg row.2.2) ∧
    (∀ row ∈ Rows.ldRegAtHl, reg8 (fieldY (op row.1)) = .reg row.2 ∧ reg8 (fieldZ (op row.1)) = .atHl) ∧
    (∀ row ∈ Rows.ldAtHlReg, reg8 (fieldY (op row.1)) = .atHl ∧ reg8 (fieldZ (op row.1)) = .reg row.2) ∧
    (∀ row ∈ Rows.addA n ++ Rows.subA n ++ Rows.andA n ++ Rows.orA n ++ Rows.xorA n ++ Rows.cpA n,
      match row.2 with
      | .reg r => reg8 (fieldZ (op row.1)) = .reg r
      | .atHl => reg8 (fieldZ (op row.1)) = .atHl
      | .imm m => encode row.1 = [op row.1, m]) ∧
    (∀ row ∈ Rows.ldReg16Imm nn ++ Rows.incReg16 ++ Rows.decReg16 ++ Rows.addHl, rp (p row.1) = row.2) ∧
    (∀ row ∈ (.popAf, .af) :: Rows.push ++ Rows.popPair, rp2 (p row.1) = row.2) ∧
    (∀ row ∈ Rows.jpIf nn ++ Rows.jrIf e ++ Rows.callIf nn ++ Rows.retIf, holds (cc (k row.1)) row.2.1 row.2.2) ∧
    (∀ row ∈ Rows.rst, row.2 = zext16 ((op row.1) &&& 0x38)) ∧
    (∀ row ∈ Rows.swap, reg8 (fieldZ (sub row.1)) = row.2) ∧
    (∀ row ∈ Rows.res, fieldY (sub row.1) = row.2.1 ∧ reg8 (fieldZ (sub row.1)) = row.2.2)

/-- Words written out from the spec's encodings decode to the instructions they stand for (30_encoding.md section 1 (formats); 95_test_vectors.md section 1). -/
def Obligations.WrittenOutWordsDecode : Prop :=
  decode [0x3E, 0x05] = .ok (.ldAN 5, []) ∧ decode [0x01, 0x34, 0x12] = .ok (.ldBcNn 0x1234, []) ∧
    decode [0x80] = .ok (.addB, []) ∧ decode [0xC5] = .ok (.pushBc, []) ∧ decode [0x18, 0xFE] = .ok (.jr 0xFE, []) ∧
    decode [0x3C] = .ok (.incA, []) ∧ decode [0x00] = .ok (.nop, []) ∧ decode [0xCB, 0x37] = .ok (.swapA, []) ∧
    decode [0xCB, 0xBE] = .ok (.res7AtHl, []) ∧ decode [0x76] = .ok (.halt, [])

/-- A pair reads as its two halves, a pair write writes them, and a half write leaves the other half (10_state.md section 1 (pairs as views); 93_implementation_defined.md GK1). -/
def Obligations.PairsAreViewsOfTheirHalves : Prop :=
  ∀ (s : State) (v : Word) (u : Byte),
    ∀ row ∈ [(Reg16.af, Reg8.a, Reg8.f), (.bc, .b, .c), (.de, .d, .e), (.hl, .h, .l)],
      (s.reg16 row.1).toNat = (s.reg row.2.1).toNat * 0x100 + (s.reg row.2.2).toNat ∧
      s.setReg16 row.1 v =
        (s.setReg row.2.1 (BitVec.ofNat 8 (v.toNat / 0x100))).setReg row.2.2 (BitVec.ofNat 8 v.toNat) ∧
      (s.setReg row.2.1 u).reg row.2.2 = s.reg row.2.2 ∧ (s.setReg row.2.2 u).reg row.2.1 = s.reg row.2.1 ∧
      (s.setReg row.2.1 u).reg16 row.1 = word u (s.reg row.2.2) ∧
      (s.setReg row.2.2 u).reg16 row.1 = word (s.reg row.2.1) u

/-- Writing one flag writes that bit of F and no other bit, register or memory byte (R25). -/
def Obligations.FlagWriteDisturbsNoOtherBit : Prop :=
  ∀ (s : State) (v : Bool), ∀ row ∈ [(Flag.z, 7), (.n, 6), (.h, 5), (.c, 4)],
    (s.setFlag row.1 v).f.getLsbD row.2 = v ∧ (s.setFlag row.1 v).flag row.1 = v ∧
      (∀ j, j ≠ row.2 → (s.setFlag row.1 v).f.getLsbD j = s.f.getLsbD j) ∧
      (∀ g, g ≠ row.1 → (s.setFlag row.1 v).flag g = s.flag g) ∧ { s.setFlag row.1 v with f := s.f } = s

/-- Two memories in canonical form that read the same everywhere are the same data (20_memory.md section 1 (address space); notes/assumptions/11.md). -/
def Obligations.EqualReadsMeanEqualMemories : Prop :=
  ∀ m m' : Memory, m.wf = true → m'.wf = true → (∀ x : Word, m.read x = m'.read x) → m = m'

/-- An instruction outside the flag writers of the spec's table leaves every bit of F (10_state.md section 3 (flag writers and readers); 92_eei_decisions.md D25). -/
def Obligations.OtherInstructionsLeaveF : Prop :=
  ∀ (i : Instr) (s t : State), i.wf = true → exec i s = .next t →
    (let op := (encode i).getD 0 0
     ¬(op < 0x40 ∧ (op &&& 0x07 = 4 ∨ op &&& 0x07 = 5 ∨ op &&& 0x0F = 9)) ∧ ¬(0x80 ≤ op ∧ op < 0xC0) ∧
      ¬(0xC0 ≤ op ∧ op &&& 0x07 = 6) ∧ op ≠ 0xF1 ∧
      ¬(op = 0xCB ∧ 0x30 ≤ (encode i).getD 1 0 ∧ (encode i).getD 1 0 ≤ 0x37)) → t.f = s.f

/-- LD r,n writes n to r and nothing else but PC (R100). -/
def Obligations.LoadImmediate : Prop :=
  ∀ (n : Byte) (s : State), ∀ row ∈ Rows.ldRegImm n,
    ∃ t, exec row.1 s = .next t ∧ t.reg row.2 = n ∧ t.pc = s.pcAfter row.1 ∧ SameRegsExcept [row.2] s t ∧
      t.sp = s.sp ∧ SameMemory s t ∧ SameEngine s t

/-- LD d,s copies s to d and changes nothing else but PC (R101). -/
def Obligations.LoadRegister : Prop :=
  ∀ s : State, ∀ row ∈ Rows.ldRegReg,
    ∃ t, exec row.1 s = .next t ∧ t.reg row.2.1 = s.reg row.2.2 ∧ t.pc = s.pcAfter row.1 ∧
      SameRegsExcept [row.2.1] s t ∧ t.sp = s.sp ∧ SameMemory s t ∧ SameEngine s t

/-- LD r,(HL) loads r from the byte at HL, the address taken before the write (R102). -/
def Obligations.LoadFromHl : Prop :=
  ∀ s : State, ∀ row ∈ Rows.ldRegAtHl,
    ∃ t, exec row.1 s = .next t ∧ t.reg row.2 = s.readMem (s.reg16 .hl) ∧ t.pc = s.pcAfter row.1 ∧
      SameRegsExcept [row.2] s t ∧ t.sp = s.sp ∧ SameMemory s t ∧ SameEngine s t

/-- LD (HL),r stores r at HL and changes no other byte and no register (R103). -/
def Obligations.StoreToHl : Prop :=
  ∀ s : State, ∀ row ∈ Rows.ldAtHlReg,
    ∃ t, exec row.1 s = .next t ∧ t.readMem (s.reg16 .hl) = s.reg row.2 ∧ t.pc = s.pcAfter row.1 ∧
      SameRegsExcept [] s t ∧ t.sp = s.sp ∧ SameMemoryExcept [s.reg16 .hl] s t ∧ SameEngine s t

/-- LD rr,nn writes nn to rr and nothing else but PC (R104). -/
def Obligations.LoadPairImmediate : Prop :=
  ∀ (nn : Word) (s : State), ∀ row ∈ Rows.ldReg16Imm nn,
    ∃ t, exec row.1 s = .next t ∧ t.reg16 row.2 = nn ∧ t.pc = s.pcAfter row.1 ∧
      SameRegsExcept (halves row.2) s t ∧ (row.2 ≠ .sp → t.sp = s.sp) ∧ SameMemory s t ∧ SameEngine s t

/-- LD SP,HL copies HL to SP and changes nothing else but PC (40_loads.md section 2 (LD SP,HL); 92_eei_decisions.md D23). -/
def Obligations.LoadSpFromHl : Prop :=
  ∀ s : State,
    ∃ t, exec .ldSpHl s = .next t ∧ t.sp = s.reg16 .hl ∧ t.pc = s.pcAfter .ldSpHl ∧ SameRegsExcept [] s t ∧
      SameMemory s t ∧ SameEngine s t

/-- LD (BC),A and LD (DE),A store A at the pair and change no other byte and no register (R106; R107). -/
def Obligations.StoreAThroughPair : Prop :=
  ∀ s : State, ∀ row ∈ [(Instr.ldAtBcA, Reg16.bc), (.ldAtDeA, .de)],
    ∃ t, exec row.1 s = .next t ∧ t.readMem (s.reg16 row.2) = s.a ∧ t.pc = s.pcAfter row.1 ∧
      SameRegsExcept [] s t ∧ t.sp = s.sp ∧ SameMemoryExcept [s.reg16 row.2] s t ∧ SameEngine s t

/-- LD (HL+),A and LD (HL-),A store A at the old HL and move HL by one, wrapping, with no flag (R108; R109). -/
def Obligations.StoreAAndMoveHl : Prop :=
  ∀ s : State, ∀ row ∈ [(Instr.ldAtHlIncA, (1 : Word)), (.ldAtHlDecA, 0xFFFF)],
    ∃ t, exec row.1 s = .next t ∧ t.readMem (s.reg16 .hl) = s.a ∧ t.reg16 .hl = s.reg16 .hl + row.2 ∧
      t.pc = s.pcAfter row.1 ∧ SameRegsExcept [.h, .l] s t ∧ t.sp = s.sp ∧ SameMemoryExcept [s.reg16 .hl] s t ∧
      SameEngine s t

/-- LDH (n),A stores A at 0xFF00 + n and LD (nn),A at nn (R110; R112). -/
def Obligations.StoreAHighAndAbsolute : Prop :=
  ∀ (n : Byte) (nn : Word) (s : State), ∀ row ∈ [(Instr.ldhAtNA n, BitVec.ofNat 16 (0xFF00 + n.toNat)), (.ldAtNnA nn, nn)],
    ∃ t, exec row.1 s = .next t ∧ t.readMem row.2 = s.a ∧ t.pc = s.pcAfter row.1 ∧
      SameRegsExcept [] s t ∧ t.sp = s.sp ∧ SameMemoryExcept [row.2] s t ∧ SameEngine s t

/-- LDH A,(n) loads A from 0xFF00 + n and LD A,(nn) from nn (R111; R113). -/
def Obligations.LoadAHighAndAbsolute : Prop :=
  ∀ (n : Byte) (nn : Word) (s : State), ∀ row ∈ [(Instr.ldhAAtN n, BitVec.ofNat 16 (0xFF00 + n.toNat)), (.ldAAtNn nn, nn)],
    ∃ t, exec row.1 s = .next t ∧ t.a = s.readMem row.2 ∧ t.pc = s.pcAfter row.1 ∧
      SameRegsExcept [.a] s t ∧ t.sp = s.sp ∧ SameMemory s t ∧ SameEngine s t

/-- ADD A,s: the sum modulo 0x100, Z, N = 0, H the carry out of bit 3, C the carry out of bit 7 (R120). -/
def Obligations.AddSetsResultAndFlags : Prop :=
  ∀ (n : Byte) (s : State), ∀ row ∈ Rows.addA n,
    let a := s.a
    let m := s.source row.2
    ∃ t, exec row.1 s = .next t ∧ t.a = a + m ∧ t.pc = s.pcAfter row.1 ∧
      FlagsAre s t (decide (a + m = 0)) false (decide (((a &&& 0xF) + (m &&& 0xF)) &&& 0x10 = 0x10))
        (decide (a.toNat + m.toNat > 0xFF)) ∧
      SameRegsExcept [.a, .f] s t ∧ t.sp = s.sp ∧ SameMemory s t ∧ SameEngine s t

/-- SUB s: the difference modulo 0x100, Z, N = 1, H the borrow from bit 4, C iff a < n (R121). -/
def Obligations.SubSetsResultAndFlags : Prop :=
  ∀ (n : Byte) (s : State), ∀ row ∈ Rows.subA n,
    let a := s.a
    let m := s.source row.2
    ∃ t, exec row.1 s = .next t ∧ t.a = a - m ∧ t.pc = s.pcAfter row.1 ∧
      FlagsAre s t (decide (a - m = 0)) true (decide (a &&& 0xF < m &&& 0xF)) (decide (a < m)) ∧
      SameRegsExcept [.a, .f] s t ∧ t.sp = s.sp ∧ SameMemory s t ∧ SameEngine s t

/-- AND s: the bitwise AND, Z, N = 0, H = 1, C = 0 (R122). -/
def Obligations.AndSetsResultAndFlags : Prop :=
  ∀ (n : Byte) (s : State), ∀ row ∈ Rows.andA n,
    let a := s.a
    let m := s.source row.2
    ∃ t, exec row.1 s = .next t ∧ t.a = a &&& m ∧ t.pc = s.pcAfter row.1 ∧
      FlagsAre s t (decide (a &&& m = 0)) false true false ∧
      SameRegsExcept [.a, .f] s t ∧ t.sp = s.sp ∧ SameMemory s t ∧ SameEngine s t

/-- OR s: the bitwise OR, Z, N = H = C = 0 (R123). -/
def Obligations.OrSetsResultAndFlags : Prop :=
  ∀ (n : Byte) (s : State), ∀ row ∈ Rows.orA n,
    let a := s.a
    let m := s.source row.2
    ∃ t, exec row.1 s = .next t ∧ t.a = a ||| m ∧ t.pc = s.pcAfter row.1 ∧
      FlagsAre s t (decide (a ||| m = 0)) false false false ∧
      SameRegsExcept [.a, .f] s t ∧ t.sp = s.sp ∧ SameMemory s t ∧ SameEngine s t

/-- XOR s: the bitwise exclusive OR, Z, N = H = C = 0 (R124). -/
def Obligations.XorSetsResultAndFlags : Prop :=
  ∀ (n : Byte) (s : State), ∀ row ∈ Rows.xorA n,
    let a := s.a
    let m := s.source row.2
    ∃ t, exec row.1 s = .next t ∧ t.a = a ^^^ m ∧ t.pc = s.pcAfter row.1 ∧
      FlagsAre s t (decide (a ^^^ m = 0)) false false false ∧
      SameRegsExcept [.a, .f] s t ∧ t.sp = s.sp ∧ SameMemory s t ∧ SameEngine s t

/-- CP s: the flags of SUB, with A not written (R125). -/
def Obligations.CompareSetsFlagsOnly : Prop :=
  ∀ (n : Byte) (s : State), ∀ row ∈ Rows.cpA n,
    let a := s.a
    let m := s.source row.2
    ∃ t, exec row.1 s = .next t ∧ t.a = a ∧ t.pc = s.pcAfter row.1 ∧
      FlagsAre s t (decide (a - m = 0)) true (decide (a &&& 0xF < m &&& 0xF)) (decide (a < m)) ∧
      SameRegsExcept [.f] s t ∧ t.sp = s.sp ∧ SameMemory s t ∧ SameEngine s t

/-- INC r: r + 1 with Z, N = 0, H; C is never touched (R126). -/
def Obligations.IncrementRegister : Prop :=
  ∀ s : State, ∀ row ∈ Rows.incReg,
    let a := s.reg row.2
    ∃ t, exec row.1 s = .next t ∧ t.reg row.2 = a + 1 ∧ t.pc = s.pcAfter row.1 ∧
      FlagsAre s t (decide (a + 1 = 0)) false (decide (((a &&& 0xF) + 1) &&& 0x10 = 0x10)) (s.flag .c) ∧
      SameRegsExcept [row.2, .f] s t ∧ t.sp = s.sp ∧ SameMemory s t ∧ SameEngine s t

/-- DEC r: r - 1 with Z, N = 1, H; C is never touched (R127). -/
def Obligations.DecrementRegister : Prop :=
  ∀ s : State, ∀ row ∈ Rows.decReg,
    let a := s.reg row.2
    ∃ t, exec row.1 s = .next t ∧ t.reg row.2 = a - 1 ∧ t.pc = s.pcAfter row.1 ∧
      FlagsAre s t (decide (a - 1 = 0)) true (decide (a &&& 0xF < 1)) (s.flag .c) ∧
      SameRegsExcept [row.2, .f] s t ∧ t.sp = s.sp ∧ SameMemory s t ∧ SameEngine s t

/-- INC rr and DEC rr move rr by one modulo 0x10000 and touch no flag (R140; R141). -/
def Obligations.IncrementAndDecrementPair : Prop :=
  ∀ s : State,
    ∀ row ∈ Rows.incReg16.map (fun r => (r.1, r.2, (1 : Word))) ++ Rows.decReg16.map (fun r => (r.1, r.2, 0xFFFF)),
    ∃ t, exec row.1 s = .next t ∧ t.reg16 row.2.1 = s.reg16 row.2.1 + row.2.2 ∧ t.pc = s.pcAfter row.1 ∧
      SameRegsExcept (halves row.2.1) s t ∧ (row.2.1 ≠ .sp → t.sp = s.sp) ∧ SameMemory s t ∧ SameEngine s t

/-- ADD HL,rr: the sum modulo 0x10000, N = 0, H the carry out of bit 11, C out of bit 15, Z unaffected (R142). -/
def Obligations.AddHlSetsResultAndFlags : Prop :=
  ∀ s : State, ∀ row ∈ Rows.addHl,
    let hl := s.reg16 .hl
    let n := s.reg16 row.2
    ∃ t, exec row.1 s = .next t ∧ t.reg16 .hl = hl + n ∧ t.pc = s.pcAfter row.1 ∧
      FlagsAre s t (s.flag .z) false (decide (((hl &&& 0xFFF) + (n &&& 0xFFF)) &&& 0x1000 = 0x1000))
        (decide (hl.toNat + n.toNat > 0xFFFF)) ∧
      SameRegsExcept [.h, .l, .f] s t ∧ t.sp = s.sp ∧ SameMemory s t ∧ SameEngine s t

/-- JP nn goes to nn; JP cc,nn goes there when cc holds and past its 3 bytes otherwise (R150; R151). -/
def Obligations.JumpsGoToTheirTarget : Prop :=
  ∀ (nn : Word) (s : State),
    (∃ t, exec (.jp nn) s = .next t ∧ t.pc = nn ∧ SameRegsExcept [] s t ∧ t.sp = s.sp ∧
      SameMemory s t ∧ SameEngine s t) ∧
    ∀ row ∈ Rows.jpIf nn, ∃ t, exec row.1 s = .next t ∧
      t.pc = (if s.flag row.2.1 = row.2.2 then nn else s.pcAfter row.1) ∧ SameRegsExcept [] s t ∧ t.sp = s.sp ∧
      SameMemory s t ∧ SameEngine s t

/-- JR e goes to the address after it plus the signed offset; JR cc,e does so when cc holds (43_control_transfer.md section 2 (JR e; JR cc,e); 30_encoding.md section 1 (bytes fetched)).
The clause on a jump not taken is the sentence of R153 that the spec marks as its own inference from 30_encoding.md
R61: "the offset byte is consumed whether or not the jump is taken, so a jump not taken leaves PC = address + 2". -/
def Obligations.RelativeJumpsGoToTheirTarget : Prop :=
  ∀ (e : Byte) (s : State),
    (∃ t, exec (.jr e) s = .next t ∧ t.pc = BitVec.ofInt 16 (s.pc.toNat + 2 + e.toInt) ∧ SameRegsExcept [] s t ∧ t.sp = s.sp ∧
      SameMemory s t ∧ SameEngine s t) ∧
    ∀ row ∈ Rows.jrIf e, ∃ t, exec row.1 s = .next t ∧
      t.pc = (if s.flag row.2.1 = row.2.2 then BitVec.ofInt 16 (s.pc.toNat + 2 + e.toInt) else s.pcAfter row.1) ∧ SameRegsExcept [] s t ∧ t.sp = s.sp ∧
      SameMemory s t ∧ SameEngine s t

/-- CALL nn pushes the address after its 3 bytes and goes to nn; CALL cc,nn does so when cc holds (R154; R155). -/
def Obligations.CallsPushAndJump : Prop :=
  ∀ (nn : Word) (s : State),
    (∃ t, exec (.call nn) s = .next t ∧ t.pc = nn ∧ t.sp = s.sp - 2 ∧ t.readMem (s.sp - 2) = loByte (s.pcAfter (.call nn)) ∧
      t.readMem (s.sp - 2 + 1) = hiByte (s.pcAfter (.call nn)) ∧ SameMemoryExcept [s.sp - 2, s.sp - 2 + 1] s t ∧
      SameRegsExcept [] s t ∧ SameEngine s t) ∧
    ∀ row ∈ Rows.callIf nn,
      (s.flag row.2.1 = row.2.2 → ∃ t, exec row.1 s = .next t ∧ t.pc = nn ∧ t.sp = s.sp - 2 ∧ t.readMem (s.sp - 2) = loByte (s.pcAfter row.1) ∧
      t.readMem (s.sp - 2 + 1) = hiByte (s.pcAfter row.1) ∧ SameMemoryExcept [s.sp - 2, s.sp - 2 + 1] s t ∧
        SameRegsExcept [] s t ∧ SameEngine s t) ∧
      (s.flag row.2.1 ≠ row.2.2 → ∃ t, exec row.1 s = .next t ∧ t.pc = s.pcAfter row.1 ∧ SameRegsExcept [] s t ∧ t.sp = s.sp ∧
      SameMemory s t ∧ SameEngine s t)

/-- RET pops PC; RET cc does so when cc holds and otherwise only moves PC past its byte (R156; R157). -/
def Obligations.ReturnsPopThePc : Prop :=
  ∀ s : State,
    (∃ t, exec .ret s = .next t ∧ t.pc = word (s.readMem (s.sp + 1)) (s.readMem s.sp) ∧ t.sp = s.sp + 2 ∧
      SameRegsExcept [] s t ∧ SameMemory s t ∧ SameEngine s t) ∧
    ∀ row ∈ Rows.retIf,
      (s.flag row.2.1 = row.2.2 → ∃ t, exec row.1 s = .next t ∧
        t.pc = word (s.readMem (s.sp + 1)) (s.readMem s.sp) ∧ t.sp = s.sp + 2 ∧
        SameRegsExcept [] s t ∧ SameMemory s t ∧ SameEngine s t) ∧
      (s.flag row.2.1 ≠ row.2.2 → ∃ t, exec row.1 s = .next t ∧ t.pc = s.pcAfter row.1 ∧ SameRegsExcept [] s t ∧ t.sp = s.sp ∧
      SameMemory s t ∧ SameEngine s t)

/-- RST v pushes the address after its byte and goes to the vector v (R158). -/
def Obligations.RestartsPushAndGoToTheVector : Prop :=
  ∀ s : State, ∀ row ∈ Rows.rst, ∃ t, exec row.1 s = .next t ∧ t.pc = row.2 ∧ t.sp = s.sp - 2 ∧ t.readMem (s.sp - 2) = loByte (s.pcAfter row.1) ∧
      t.readMem (s.sp - 2 + 1) = hiByte (s.pcAfter row.1) ∧ SameMemoryExcept [s.sp - 2, s.sp - 2 + 1] s t ∧
      SameRegsExcept [] s t ∧ SameEngine s t

/-- PUSH rr decrements SP by 2 and writes the high byte at SP+1 and the low byte at SP (R170; R172). -/
def Obligations.PushStoresThePair : Prop :=
  ∀ s : State, ∀ row ∈ Rows.push, ∃ t, exec row.1 s = .next t ∧ t.sp = s.sp - 2 ∧
      t.readMem (s.sp - 2 + 1) = hiByte (s.reg16 row.2) ∧ t.readMem (s.sp - 2) = loByte (s.reg16 row.2) ∧
      SameMemoryExcept [s.sp - 2, s.sp - 2 + 1] s t ∧ t.pc = s.pcAfter row.1 ∧ SameRegsExcept [] s t ∧ SameEngine s t

/-- POP rr loads the pair from SP and SP+1 and increments SP by 2; POP AF clears F[3:0] (44_stack.md section 2 (POP rr); 92_eei_decisions.md D7). -/
def Obligations.PopLoadsThePair : Prop :=
  ∀ s : State,
    (∀ row ∈ Rows.popPair, ∃ t, exec row.1 s = .next t ∧
      t.reg16 row.2 = word (s.readMem (s.sp + 1)) (s.readMem s.sp) ∧ t.sp = s.sp + 2 ∧ t.pc = s.pcAfter row.1 ∧
      SameRegsExcept (halves row.2) s t ∧ SameMemory s t ∧ SameEngine s t) ∧
    ∃ t, exec .popAf s = .next t ∧ t.a = s.readMem (s.sp + 1) ∧ t.f = s.readMem s.sp &&& 0xF0 ∧ t.sp = s.sp + 2 ∧
      t.pc = s.pcAfter .popAf ∧ SameRegsExcept [.a, .f] s t ∧ SameMemory s t ∧ SameEngine s t

/-- push16 then pop16 gives the word back and restores SP; PUSH AF then POP AF restores AF (44_stack.md section 3 (laws)). -/
def Obligations.PushThenPopRestores : Prop :=
  (∀ (s : State) (v : Word), (s.push16 v).pop16.1 = v ∧ (s.push16 v).pop16.2.sp = s.sp ∧
      SameMemoryExcept [s.sp - 2, s.sp - 2 + 1] s (s.push16 v).pop16.2) ∧
    ∀ s : State, s.f &&& 0x0F = 0 → ∃ t u, exec .pushAf s = .next t ∧ exec .popAf t = .next u ∧ u.a = s.a ∧ u.f = s.f ∧
      u.sp = s.sp

/-- SWAP s exchanges the nibbles of its operand, sets Z, clears N, H and C (45_prefixed_bitops.md (SWAP s); 92_eei_decisions.md D8). -/
def Obligations.SwapExchangesNibbles : Prop :=
  ∀ s : State, ∀ row ∈ Rows.swap,
    let v := s.read8 row.2
    ∃ t, exec row.1 s = .next t ∧ (t.read8 row.2).toNat = v.toNat % 16 * 16 + v.toNat / 16 ∧
      FlagsAre s t (decide (v = 0)) false false false ∧ t.pc = s.pcAfter row.1 ∧
      SameRegsExcept (.f :: row.2.regs) s t ∧ t.sp = s.sp ∧ SameMemoryExcept (row.2.addrs s) s t ∧ SameEngine s t

/-- RES b,s clears bit b of its operand, leaves the other bits and writes no flag (45_prefixed_bitops.md (RES b,s); 92_eei_decisions.md D9). -/
def Obligations.ResClearsOneBit : Prop :=
  ∀ s : State, ∀ row ∈ Rows.res, ∃ t, exec row.1 s = .next t ∧
      (∀ k, (t.read8 row.2.2).getLsbD k = (if k = row.2.1.toNat then false else (s.read8 row.2.2).getLsbD k)) ∧
      t.pc = s.pcAfter row.1 ∧ SameRegsExcept row.2.2.regs s t ∧ t.sp = s.sp ∧
      SameMemoryExcept (row.2.2.addrs s) s t ∧ SameEngine s t

/-- NOP and STOP move PC past their byte and change nothing else (46_control_stubs.md (NOP, STOP); 92_eei_decisions.md D5). -/
def Obligations.NopAndStopOnlyMovePc : Prop :=
  ∀ s : State, ∀ i ∈ [Instr.nop, .stop], ∃ t, exec i s = .next t ∧ t.pc = s.pc + 1 ∧ SameRegsExcept [] s t ∧ t.sp = s.sp ∧
      SameMemory s t ∧ SameEngine s t

/-- HALT enters Halted with its own address in the report and PC past it (46_control_stubs.md (HALT); 92_eei_decisions.md D4). -/
def Obligations.HaltEntersHalted : Prop :=
  ∀ s : State, ∃ t, exec .halt s = .next t ∧ t.run = .halted ∧ t.report = .haltInstruction s.pc ∧ t.pc = s.pc + 1 ∧
    SameRegsExcept [] s t ∧ t.sp = s.sp ∧ SameMemory s t ∧ t.pixels = s.pixels

/-- EI writes 0x01 and DI 0x00 to 0xFFFF, and nothing else changes but PC (46_control_stubs.md (EI, DI); 92_eei_decisions.md D6). -/
def Obligations.InterruptToggleWritesTheIeByte : Prop :=
  ∀ s : State, ∀ row ∈ [(Instr.ei, (0x01 : Byte)), (.di, 0x00)], ∃ t, exec row.1 s = .next t ∧
      t.readMem 0xFFFF = row.2 ∧ t.pc = s.pc + 1 ∧ SameRegsExcept [] s t ∧ t.sp = s.sp ∧
      SameMemoryExcept [0xFFFF] s t ∧ SameEngine s t

/-- A render pass computes every pixel from its map byte and its tile row, and changes only the buffer (48_tile_renderer.md (render pass, colour index); 92_eei_decisions.md D14; 92_eei_decisions.md D16). -/
def Obligations.RenderComputesEveryPixel : Prop :=
  ∀ (cfg : Config) (s : State), { render cfg s with pixels := s.pixels } = s ∧
    ∀ tx ty r c : Nat, tx < 32 → ty < 32 → r < 8 → c < 8 →
      let i := s.readMem (cfg.bgMapBase + BitVec.ofNat 16 (32 * ty + tx))
      let lo := s.readMem (cfg.tileDataBase + BitVec.ofNat 16 (16 * i.toNat + 2 * r))
      let hi := s.readMem (cfg.tileDataBase + BitVec.ofNat 16 (16 * i.toNat + 2 * r + 1))
      ((render cfg s).pixels.pixel (8 * tx + c) (8 * ty + r)).getLsbD 0 = lo.getLsbD (7 - c) ∧
        ((render cfg s).pixels.pixel (8 * tx + c) (8 * ty + r)).getLsbD 1 = hi.getLsbD (7 - c)

/-- The pixels of a tile row depend only on its two bytes, and the bytes 0xFF, 0x00 decode to 8 dark-gray pixels (R208). -/
def Obligations.TileRowPixelsDependOnItsTwoBytes : Prop :=
  ∀ (cfg : Config) (s s' : State) (tx ty r c : Nat), tx < 32 → ty < 32 → r < 8 → c < 8 →
    let row := tileRowAddr cfg (tileIndex cfg s.mem tx ty) r
    let row' := tileRowAddr cfg (tileIndex cfg s'.mem tx ty) r
    (s.readMem row = s'.readMem row' → s.readMem (row + 1) = s'.readMem (row' + 1) →
      (render cfg s).pixels.pixel (8 * tx + c) (8 * ty + r) = (render cfg s').pixels.pixel (8 * tx + c) (8 * ty + r)) ∧
    (s.readMem row = 0xFF → s.readMem (row + 1) = 0x00 →
      (render cfg s).pixels.pixel (8 * tx + c) (8 * ty + r) = 1 ∧
        shade ((render cfg s).pixels.pixel (8 * tx + c) (8 * ty + r)) = .darkGray)

/-- The scanline advance is (stored byte + 1) mod 154, changes only 0xFF44, and comes round after 154 advances (60_exceptions.md section 4 (scanline advance); 92_eei_decisions.md D18). -/
def Obligations.ScanlineAdvancesModulo154 : Prop :=
  (∀ s : State, ((advanceScanline s).readMem 0xFF44).toNat = ((s.readMem 0xFF44).toNat + 1) % 154 ∧
      SameMemoryExcept [0xFF44] s (advanceScanline s) ∧ { advanceScanline s with mem := s.mem } = s) ∧
    ∀ s : State, (s.readMem 0xFF44).toNat < 154 → (advanceScanline^[154] s).readMem 0xFF44 = s.readMem 0xFF44

/-- reset(image) copies the image from address 0x0000, truncated at IMAGE_CAP, over zeroed memory (70_reset_and_hazards.md section 1 (reset, image load); 92_eei_decisions.md D17; 92_eei_decisions.md D27). -/
def Obligations.ResetLoadsTheImage : Prop :=
  ∀ (cfg : Config) (image : List Byte),
    (∀ x : Word, (State.resetWith cfg image).readMem x =
      if x.toNat < image.length ∧ x.toNat < cfg.imageCap.bytes then image.getD x.toNat 0 else 0) ∧
    { State.resetWith cfg image with mem := State.reset.mem } = State.reset

/-- A JR assembled to a label reaches it, also by wrap, and a label is refused exactly when no JR reaches it (30_encoding.md section 4 (label operands); 43_control_transfer.md section 2 (JR e); 00_scope.md section 5 (arithmetic); notes/assumptions/14.md).
R72 is the spec's own inference from the JR rule, and it does not say how the difference is taken where the reach
wraps at 0xFFFF: that it is taken modulo 0x10000 is the model's reading (log 14, DEDUCED). -/
def Obligations.AssembledJrReachesItsLabel : Prop :=
  ∀ (s : State) (label : Word),
    (∀ e, jrOffset label s.pc = some e ↔ ∃ t, exec (.jr e) s = .next t ∧ t.pc = label) ∧
      (jrOffset label s.pc = none ↔ (label - (s.pc + 2)).toInt < -128 ∨ 127 < (label - (s.pc + 2)).toInt)
end

