-- ==== Sys2Proof/Laws/PerInstr.lean ====
section
/-! SUPPORT. The family EncodedLength (LAWS.json): the number of bytes of an instruction is the one its first byte alone
decides (30_encoding.md R61). One lemma per constructor of Instr. -/

namespace Sys2Proof.Laws.EncodedLength

/-- R61: "The length of every instruction is decided by its first byte alone (and is 2 for 0xCB)". -/
def Statement (i : Instr) : Prop := (encode i).length = opcodeLength ((encode i).headD 0)

theorem nop : Statement (.nop) := rfl
theorem stop : Statement (.stop) := rfl
theorem halt : Statement (.halt) := rfl
theorem di : Statement (.di) := rfl
theorem ei : Statement (.ei) := rfl
theorem ldBcNn (nn : Word) : Statement (.ldBcNn nn) := rfl
theorem ldDeNn (nn : Word) : Statement (.ldDeNn nn) := rfl
theorem ldHlNn (nn : Word) : Statement (.ldHlNn nn) := rfl
theorem ldSpNn (nn : Word) : Statement (.ldSpNn nn) := rfl
theorem ldAtBcA : Statement (.ldAtBcA) := rfl
theorem ldAtDeA : Statement (.ldAtDeA) := rfl
theorem ldAtHlIncA : Statement (.ldAtHlIncA) := rfl
theorem ldAtHlDecA : Statement (.ldAtHlDecA) := rfl
theorem ldBN (n : Byte) : Statement (.ldBN n) := rfl
theorem ldCN (n : Byte) : Statement (.ldCN n) := rfl
theorem ldDN (n : Byte) : Statement (.ldDN n) := rfl
theorem ldEN (n : Byte) : Statement (.ldEN n) := rfl
theorem ldHN (n : Byte) : Statement (.ldHN n) := rfl
theorem ldLN (n : Byte) : Statement (.ldLN n) := rfl
theorem ldAN (n : Byte) : Statement (.ldAN n) := rfl
theorem ldBB : Statement (.ldBB) := rfl
theorem ldBC : Statement (.ldBC) := rfl
theorem ldBD : Statement (.ldBD) := rfl
theorem ldBE : Statement (.ldBE) := rfl
theorem ldBH : Statement (.ldBH) := rfl
theorem ldBL : Statement (.ldBL) := rfl
theorem ldBAtHl : Statement (.ldBAtHl) := rfl
theorem ldBA : Statement (.ldBA) := rfl
theorem ldCB : Statement (.ldCB) := rfl
theorem ldCC : Statement (.ldCC) := rfl
theorem ldCD : Statement (.ldCD) := rfl
theorem ldCE : Statement (.ldCE) := rfl
theorem ldCH : Statement (.ldCH) := rfl
theorem ldCL : Statement (.ldCL) := rfl
theorem ldCAtHl : Statement (.ldCAtHl) := rfl
theorem ldCA : Statement (.ldCA) := rfl
theorem ldDB : Statement (.ldDB) := rfl
theorem ldDC : Statement (.ldDC) := rfl
theorem ldDD : Statement (.ldDD) := rfl
theorem ldDE : Statement (.ldDE) := rfl
theorem ldDH : Statement (.ldDH) := rfl
theorem ldDL : Statement (.ldDL) := rfl
theorem ldDAtHl : Statement (.ldDAtHl) := rfl
theorem ldDA : Statement (.ldDA) := rfl
theorem ldEB : Statement (.ldEB) := rfl
theorem ldEC : Statement (.ldEC) := rfl
theorem ldED : Statement (.ldED) := rfl
theorem ldEE : Statement (.ldEE) := rfl
theorem ldEH : Statement (.ldEH) := rfl
theorem ldEL : Statement (.ldEL) := rfl
theorem ldEAtHl : Statement (.ldEAtHl) := rfl
theorem ldEA : Statement (.ldEA) := rfl
theorem ldHB : Statement (.ldHB) := rfl
theorem ldHC : Statement (.ldHC) := rfl
theorem ldHD : Statement (.ldHD) := rfl
theorem ldHE : Statement (.ldHE) := rfl
theorem ldHH : Statement (.ldHH) := rfl
theorem ldHL : Statement (.ldHL) := rfl
theorem ldHAtHl : Statement (.ldHAtHl) := rfl
theorem ldHA : Statement (.ldHA) := rfl
theorem ldLB : Statement (.ldLB) := rfl
theorem ldLC : Statement (.ldLC) := rfl
theorem ldLD : Statement (.ldLD) := rfl
theorem ldLE : Statement (.ldLE) := rfl
theorem ldLH : Statement (.ldLH) := rfl
theorem ldLL : Statement (.ldLL) := rfl
theorem ldLAtHl : Statement (.ldLAtHl) := rfl
theorem ldLA : Statement (.ldLA) := rfl
theorem ldAtHlB : Statement (.ldAtHlB) := rfl
theorem ldAtHlC : Statement (.ldAtHlC) := rfl
theorem ldAtHlD : Statement (.ldAtHlD) := rfl
theorem ldAtHlE : Statement (.ldAtHlE) := rfl
theorem ldAtHlH : Statement (.ldAtHlH) := rfl
theorem ldAtHlL : Statement (.ldAtHlL) := rfl
theorem ldAtHlA : Statement (.ldAtHlA) := rfl
theorem ldAB : Statement (.ldAB) := rfl
theorem ldAC : Statement (.ldAC) := rfl
theorem ldAD : Statement (.ldAD) := rfl
theorem ldAE : Statement (.ldAE) := rfl
theorem ldAH : Statement (.ldAH) := rfl
theorem ldAL : Statement (.ldAL) := rfl
theorem ldAAtHl : Statement (.ldAAtHl) := rfl
theorem ldAA : Statement (.ldAA) := rfl
theorem ldhAtNA (n : Byte) : Statement (.ldhAtNA n) := rfl
theorem ldhAAtN (n : Byte) : Statement (.ldhAAtN n) := rfl
theorem ldAtNnA (nn : Word) : Statement (.ldAtNnA nn) := rfl
theorem ldAAtNn (nn : Word) : Statement (.ldAAtNn nn) := rfl
theorem ldSpHl : Statement (.ldSpHl) := rfl
theorem incB : Statement (.incB) := rfl
theorem decB : Statement (.decB) := rfl
theorem incC : Statement (.incC) := rfl
theorem decC : Statement (.decC) := rfl
theorem incD : Statement (.incD) := rfl
theorem decD : Statement (.decD) := rfl
theorem incE : Statement (.incE) := rfl
theorem decE : Statement (.decE) := rfl
theorem incH : Statement (.incH) := rfl
theorem decH : Statement (.decH) := rfl
theorem incL : Statement (.incL) := rfl
theorem decL : Statement (.decL) := rfl
theorem incA : Statement (.incA) := rfl
theorem decA : Statement (.decA) := rfl
theorem addB : Statement (.addB) := rfl
theorem addC : Statement (.addC) := rfl
theorem addD : Statement (.addD) := rfl
theorem addE : Statement (.addE) := rfl
theorem addH : Statement (.addH) := rfl
theorem addL : Statement (.addL) := rfl
theorem addAtHl : Statement (.addAtHl) := rfl
theorem addA : Statement (.addA) := rfl
theorem addN (n : Byte) : Statement (.addN n) := rfl
theorem subB : Statement (.subB) := rfl
theorem subC : Statement (.subC) := rfl
theorem subD : Statement (.subD) := rfl
theorem subE : Statement (.subE) := rfl
theorem subH : Statement (.subH) := rfl
theorem subL : Statement (.subL) := rfl
theorem subAtHl : Statement (.subAtHl) := rfl
theorem subA : Statement (.subA) := rfl
theorem subN (n : Byte) : Statement (.subN n) := rfl
theorem andB : Statement (.andB) := rfl
theorem andC : Statement (.andC) := rfl
theorem andD : Statement (.andD) := rfl
theorem andE : Statement (.andE) := rfl
theorem andH : Statement (.andH) := rfl
theorem andL : Statement (.andL) := rfl
theorem andAtHl : Statement (.andAtHl) := rfl
theorem andA : Statement (.andA) := rfl
theorem andN (n : Byte) : Statement (.andN n) := rfl
theorem xorB : Statement (.xorB) := rfl
theorem xorC : Statement (.xorC) := rfl
theorem xorD : Statement (.xorD) := rfl
theorem xorE : Statement (.xorE) := rfl
theorem xorH : Statement (.xorH) := rfl
theorem xorL : Statement (.xorL) := rfl
theorem xorAtHl : Statement (.xorAtHl) := rfl
theorem xorA : Statement (.xorA) := rfl
theorem xorN (n : Byte) : Statement (.xorN n) := rfl
theorem orB : Statement (.orB) := rfl
theorem orC : Statement (.orC) := rfl
theorem orD : Statement (.orD) := rfl
theorem orE : Statement (.orE) := rfl
theorem orH : Statement (.orH) := rfl
theorem orL : Statement (.orL) := rfl
theorem orAtHl : Statement (.orAtHl) := rfl
theorem orA : Statement (.orA) := rfl
theorem orN (n : Byte) : Statement (.orN n) := rfl
theorem cpB : Statement (.cpB) := rfl
theorem cpC : Statement (.cpC) := rfl
theorem cpD : Statement (.cpD) := rfl
theorem cpE : Statement (.cpE) := rfl
theorem cpH : Statement (.cpH) := rfl
theorem cpL : Statement (.cpL) := rfl
theorem cpAtHl : Statement (.cpAtHl) := rfl
theorem cpA : Statement (.cpA) := rfl
theorem cpN (n : Byte) : Statement (.cpN n) := rfl
theorem incBc : Statement (.incBc) := rfl
theorem decBc : Statement (.decBc) := rfl
theorem addHlBc : Statement (.addHlBc) := rfl
theorem incDe : Statement (.incDe) := rfl
theorem decDe : Statement (.decDe) := rfl
theorem addHlDe : Statement (.addHlDe) := rfl
theorem incHl : Statement (.incHl) := rfl
theorem decHl : Statement (.decHl) := rfl
theorem addHlHl : Statement (.addHlHl) := rfl
theorem incSp : Statement (.incSp) := rfl
theorem decSp : Statement (.decSp) := rfl
theorem addHlSp : Statement (.addHlSp) := rfl
theorem jr (e : Byte) : Statement (.jr e) := rfl
theorem jrNz (e : Byte) : Statement (.jrNz e) := rfl
theorem jrZ (e : Byte) : Statement (.jrZ e) := rfl
theorem jrNc (e : Byte) : Statement (.jrNc e) := rfl
theorem jrC (e : Byte) : Statement (.jrC e) := rfl
theorem retNz : Statement (.retNz) := rfl
theorem jpNz (nn : Word) : Statement (.jpNz nn) := rfl
theorem callNz (nn : Word) : Statement (.callNz nn) := rfl
theorem retZ : Statement (.retZ) := rfl
theorem jpZ (nn : Word) : Statement (.jpZ nn) := rfl
theorem callZ (nn : Word) : Statement (.callZ nn) := rfl
theorem retNc : Statement (.retNc) := rfl
theorem jpNc (nn : Word) : Statement (.jpNc nn) := rfl
theorem callNc (nn : Word) : Statement (.callNc nn) := rfl
theorem retC : Statement (.retC) := rfl
theorem jpC (nn : Word) : Statement (.jpC nn) := rfl
theorem callC (nn : Word) : Statement (.callC nn) := rfl
theorem jp (nn : Word) : Statement (.jp nn) := rfl
theorem ret : Statement (.ret) := rfl
theorem call (nn : Word) : Statement (.call nn) := rfl
theorem rst00 : Statement (.rst00) := rfl
theorem rst08 : Statement (.rst08) := rfl
theorem rst10 : Statement (.rst10) := rfl
theorem rst18 : Statement (.rst18) := rfl
theorem rst20 : Statement (.rst20) := rfl
theorem rst28 : Statement (.rst28) := rfl
theorem rst30 : Statement (.rst30) := rfl
theorem rst38 : Statement (.rst38) := rfl
theorem popBc : Statement (.popBc) := rfl
theorem pushBc : Statement (.pushBc) := rfl
theorem popDe : Statement (.popDe) := rfl
theorem pushDe : Statement (.pushDe) := rfl
theorem popHl : Statement (.popHl) := rfl
theorem pushHl : Statement (.pushHl) := rfl
theorem popAf : Statement (.popAf) := rfl
theorem pushAf : Statement (.pushAf) := rfl
theorem prefixCb (sub : Byte) : Statement (.prefixCb sub) := rfl
theorem swapB : Statement (.swapB) := rfl
theorem swapC : Statement (.swapC) := rfl
theorem swapD : Statement (.swapD) := rfl
theorem swapE : Statement (.swapE) := rfl
theorem swapH : Statement (.swapH) := rfl
theorem swapL : Statement (.swapL) := rfl
theorem swapAtHl : Statement (.swapAtHl) := rfl
theorem swapA : Statement (.swapA) := rfl
theorem res0B : Statement (.res0B) := rfl
theorem res0C : Statement (.res0C) := rfl
theorem res0D : Statement (.res0D) := rfl
theorem res0E : Statement (.res0E) := rfl
theorem res0H : Statement (.res0H) := rfl
theorem res0L : Statement (.res0L) := rfl
theorem res0AtHl : Statement (.res0AtHl) := rfl
theorem res0A : Statement (.res0A) := rfl
theorem res1B : Statement (.res1B) := rfl
theorem res1C : Statement (.res1C) := rfl
theorem res1D : Statement (.res1D) := rfl
theorem res1E : Statement (.res1E) := rfl
theorem res1H : Statement (.res1H) := rfl
theorem res1L : Statement (.res1L) := rfl
theorem res1AtHl : Statement (.res1AtHl) := rfl
theorem res1A : Statement (.res1A) := rfl
theorem res2B : Statement (.res2B) := rfl
theorem res2C : Statement (.res2C) := rfl
theorem res2D : Statement (.res2D) := rfl
theorem res2E : Statement (.res2E) := rfl
theorem res2H : Statement (.res2H) := rfl
theorem res2L : Statement (.res2L) := rfl
theorem res2AtHl : Statement (.res2AtHl) := rfl
theorem res2A : Statement (.res2A) := rfl
theorem res3B : Statement (.res3B) := rfl
theorem res3C : Statement (.res3C) := rfl
theorem res3D : Statement (.res3D) := rfl
theorem res3E : Statement (.res3E) := rfl
theorem res3H : Statement (.res3H) := rfl
theorem res3L : Statement (.res3L) := rfl
theorem res3AtHl : Statement (.res3AtHl) := rfl
theorem res3A : Statement (.res3A) := rfl
theorem res4B : Statement (.res4B) := rfl
theorem res4C : Statement (.res4C) := rfl
theorem res4D : Statement (.res4D) := rfl
theorem res4E : Statement (.res4E) := rfl
theorem res4H : Statement (.res4H) := rfl
theorem res4L : Statement (.res4L) := rfl
theorem res4AtHl : Statement (.res4AtHl) := rfl
theorem res4A : Statement (.res4A) := rfl
theorem res5B : Statement (.res5B) := rfl
theorem res5C : Statement (.res5C) := rfl
theorem res5D : Statement (.res5D) := rfl
theorem res5E : Statement (.res5E) := rfl
theorem res5H : Statement (.res5H) := rfl
theorem res5L : Statement (.res5L) := rfl
theorem res5AtHl : Statement (.res5AtHl) := rfl
theorem res5A : Statement (.res5A) := rfl
theorem res6B : Statement (.res6B) := rfl
theorem res6C : Statement (.res6C) := rfl
theorem res6D : Statement (.res6D) := rfl
theorem res6E : Statement (.res6E) := rfl
theorem res6H : Statement (.res6H) := rfl
theorem res6L : Statement (.res6L) := rfl
theorem res6AtHl : Statement (.res6AtHl) := rfl
theorem res6A : Statement (.res6A) := rfl
theorem res7B : Statement (.res7B) := rfl
theorem res7C : Statement (.res7C) := rfl
theorem res7D : Statement (.res7D) := rfl
theorem res7E : Statement (.res7E) := rfl
theorem res7H : Statement (.res7H) := rfl
theorem res7L : Statement (.res7L) := rfl
theorem res7AtHl : Statement (.res7AtHl) := rfl
theorem res7A : Statement (.res7A) := rfl

end Sys2Proof.Laws.EncodedLength
end

