-- ==== Sys2Proof/Laws/Decode.lean ====
section
/-! SUPPORT. The tables of the decoder against the membership rules R66 and R67. -/

namespace Sys2Proof

/-- R67: the members are exactly SWAP s and RES b,s. -/
theorem prefixedMember_isSome (sub : Byte) : (prefixedMember sub).isSome = isPrefixedMember sub := by
  revert sub; decide

/-- A sub-opcode that is not a member decodes to the prefix itself. -/
theorem decodePrefixed_of_not_member {sub : Byte} (h : isPrefixedMember sub = false) :
    decodePrefixed sub = .prefixCb sub := by
  have hn : prefixedMember sub = none := by
    rw [← Option.not_isSome_iff_eq_none, prefixedMember_isSome, h]; decide
  simp [decodePrefixed, hn]

theorem decodeWindow_prefix (sub b2 : Byte) : decodeWindow 0xCB sub b2 = some (decodePrefixed sub) := rfl

end Sys2Proof
end

