-- ==== Sys2Proof/Laws/Driver.lean ====
section
/-! SUPPORT. The driver's loop (60_exceptions.md R232): what one iteration can do, said once, and the bound on its counter,
so that a render iteration is always reached. -/

namespace Sys2Proof.Machine

@[simp] theorem Driver.start_core (s : State) : (Driver.start s).core = s := rfl
@[simp] theorem Driver.start_k (s : State) : (Driver.start s).k = 0 := rfl

/-- Everything an iteration that answers can do: quit with nothing changed, render and advance at the interval, or step. -/
theorem Driver.iterate_cases {cfg : Config} {poll : Bool} {d e : Driver} {ev : LoopEvent}
    (h : d.iterate cfg poll = .next (e, ev)) :
    (poll = false ∧ e = d ∧ ev = .quit) ∨
      (poll = true ∧ d.k = cfg.renderInterval ∧ e = ⟨advanceScanline (render cfg d.core), 0⟩ ∧ ev = .presented) ∨
      (poll = true ∧ d.k ≠ cfg.renderInterval ∧ step d.core = .next e.core ∧ e.k = d.k + 1 ∧
        ev = if e.core.continues then .stepped else .halted) := by
  cases poll with
  | false => cases h; exact .inl ⟨rfl, rfl, rfl⟩
  | true =>
    right
    simp only [Driver.iterate, Bool.true_eq_false, if_false] at h
    split at h
    · cases h; exact .inl ⟨rfl, ‹_›, rfl, rfl⟩
    · cases hs : step d.core with
      | next s => rw [hs] at h; cases h; exact .inr ⟨rfl, ‹_›, rfl, rfl, rfl⟩
      | fault r => exact r.rec
      | refused r => rw [hs] at h; cases h

/-- The counter starts at 0 and never passes the interval. -/
theorem Driver.iterate_k_le {cfg : Config} {poll : Bool} {d e : Driver} {ev : LoopEvent}
    (hk : d.k ≤ cfg.renderInterval) (h : d.iterate cfg poll = .next (e, ev)) : e.k ≤ cfg.renderInterval := by
  obtain ⟨-, rfl, -⟩ | ⟨-, -, rfl, -⟩ | ⟨-, hne, -, he, -⟩ := Driver.iterate_cases h
  · exact hk
  · exact Nat.zero_le _
  · omega

theorem Driver.loop_k_le {cfg : Config} {polls : List Bool} {d e : Driver} (hk : d.k ≤ cfg.renderInterval)
    (h : d.loop cfg polls = .next e) : e.k ≤ cfg.renderInterval := by
  induction polls generalizing d with
  | nil => cases h; exact hk
  | cons poll polls ih =>
    simp only [Driver.loop] at h
    split at h
    · cases h; exact Driver.iterate_k_le hk ‹_›
    · cases h; exact Driver.iterate_k_le hk ‹_›
    · exact ih (Driver.iterate_k_le hk ‹_›) h
    · exact ih (Driver.iterate_k_le hk ‹_›) h
    · cases h
    · cases h

/-- From `k <- 0` on, the counter never passes the interval. -/
theorem Driver.run_k_le {cfg : Config} {polls : List Bool} {s : State} {e : Driver}
    (h : Driver.run cfg polls s = .next e) : e.k ≤ cfg.renderInterval := Driver.loop_k_le (Nat.zero_le _) h

end Sys2Proof.Machine
end

