-- ==== Sys2Proof/Laws/State.lean ====
section
/-! SUPPORT. One lemma per field per update of the state, so that no proof unfolds a record update. -/

namespace Sys2Proof.Machine

variable (s : State)

/-! ### `advance` -/

@[simp] theorem State.advance_sp (n : Nat) : (s.advance n).sp = s.sp := rfl
@[simp] theorem State.advance_pc (n : Nat) : (s.advance n).pc = s.pc + BitVec.ofNat 16 n := rfl
@[simp] theorem State.advance_mem (n : Nat) : (s.advance n).mem = s.mem := rfl
@[simp] theorem State.advance_run (n : Nat) : (s.advance n).run = s.run := rfl
@[simp] theorem State.advance_report (n : Nat) : (s.advance n).report = s.report := rfl
@[simp] theorem State.advance_pixels (n : Nat) : (s.advance n).pixels = s.pixels := rfl
@[simp] theorem State.advance_reg (n : Nat) (q : Reg8) : (s.advance n).reg q = s.reg q := by cases q <;> rfl
@[simp] theorem State.advance_reg16 (n : Nat) (p : Reg16) : (s.advance n).reg16 p = s.reg16 p := by cases p <;> rfl
@[simp] theorem State.advance_f (n : Nat) : (s.advance n).f = s.f := rfl
@[simp] theorem State.advance_a (n : Nat) : (s.advance n).a = s.a := rfl
@[simp] theorem State.advance_flag (n : Nat) (g : Flag) : (s.advance n).flag g = s.flag g := rfl
@[simp] theorem State.advance_cond (n : Nat) (k : Cond) : (s.advance n).cond k = s.cond k := by cases k <;> rfl
@[simp] theorem State.advance_readMem (n : Nat) (y : Word) : (s.advance n).readMem y = s.readMem y := rfl

/-! ### `setPc` -/

@[simp] theorem State.setPc_sp (v : Word) : (s.setPc v).sp = s.sp := rfl
@[simp] theorem State.setPc_pc (v : Word) : (s.setPc v).pc = v := rfl
@[simp] theorem State.setPc_mem (v : Word) : (s.setPc v).mem = s.mem := rfl
@[simp] theorem State.setPc_run (v : Word) : (s.setPc v).run = s.run := rfl
@[simp] theorem State.setPc_report (v : Word) : (s.setPc v).report = s.report := rfl
@[simp] theorem State.setPc_pixels (v : Word) : (s.setPc v).pixels = s.pixels := rfl
@[simp] theorem State.setPc_reg (v : Word) (q : Reg8) : (s.setPc v).reg q = s.reg q := by cases q <;> rfl
@[simp] theorem State.setPc_reg16 (v : Word) (p : Reg16) : (s.setPc v).reg16 p = s.reg16 p := by cases p <;> rfl
@[simp] theorem State.setPc_f (v : Word) : (s.setPc v).f = s.f := rfl
@[simp] theorem State.setPc_a (v : Word) : (s.setPc v).a = s.a := rfl
@[simp] theorem State.setPc_flag (v : Word) (g : Flag) : (s.setPc v).flag g = s.flag g := rfl
@[simp] theorem State.setPc_cond (v : Word) (k : Cond) : (s.setPc v).cond k = s.cond k := by cases k <;> rfl
@[simp] theorem State.setPc_readMem (v : Word) (y : Word) : (s.setPc v).readMem y = s.readMem y := rfl

/-! ### `setReg` -/

@[simp] theorem State.setReg_sp (r : Reg8) (v : Byte) : (s.setReg r v).sp = s.sp := by cases r <;> rfl
@[simp] theorem State.setReg_pc (r : Reg8) (v : Byte) : (s.setReg r v).pc = s.pc := by cases r <;> rfl
@[simp] theorem State.setReg_mem (r : Reg8) (v : Byte) : (s.setReg r v).mem = s.mem := by cases r <;> rfl
@[simp] theorem State.setReg_run (r : Reg8) (v : Byte) : (s.setReg r v).run = s.run := by cases r <;> rfl
@[simp] theorem State.setReg_report (r : Reg8) (v : Byte) : (s.setReg r v).report = s.report := by cases r <;> rfl
@[simp] theorem State.setReg_pixels (r : Reg8) (v : Byte) : (s.setReg r v).pixels = s.pixels := by cases r <;> rfl
@[simp] theorem State.setReg_readMem (r : Reg8) (v : Byte) (y : Word) : (s.setReg r v).readMem y = s.readMem y := by cases r <;> rfl
@[simp] theorem State.setReg_reg (r : Reg8) (v : Byte) (q : Reg8) :
    (s.setReg r v).reg q = if q = r then v else s.reg q := by cases r <;> cases q <;> rfl
@[simp] theorem State.setReg_a_a (v : Byte) : (s.setReg .a v).a = v := rfl
theorem State.setReg_f (r : Reg8) (v : Byte) (h : r ≠ .f) : (s.setReg r v).f = s.f := by
  cases r <;> first | rfl | exact absurd rfl h
theorem State.setReg_flag (r : Reg8) (v : Byte) (h : r ≠ .f) (g : Flag) : (s.setReg r v).flag g = s.flag g := by
  cases r <;> first | rfl | exact absurd rfl h

/-! ### `setReg16` -/

@[simp] theorem State.setReg16_sp (p : Reg16) (v : Word) : (s.setReg16 p v).sp = if p = .sp then v else s.sp := by cases p <;> rfl
@[simp] theorem State.setReg16_pc (p : Reg16) (v : Word) : (s.setReg16 p v).pc = s.pc := by cases p <;> rfl
@[simp] theorem State.setReg16_mem (p : Reg16) (v : Word) : (s.setReg16 p v).mem = s.mem := by cases p <;> rfl
@[simp] theorem State.setReg16_run (p : Reg16) (v : Word) : (s.setReg16 p v).run = s.run := by cases p <;> rfl
@[simp] theorem State.setReg16_report (p : Reg16) (v : Word) : (s.setReg16 p v).report = s.report := by cases p <;> rfl
@[simp] theorem State.setReg16_pixels (p : Reg16) (v : Word) : (s.setReg16 p v).pixels = s.pixels := by cases p <;> rfl
@[simp] theorem State.setReg16_readMem (p : Reg16) (v : Word) (y : Word) : (s.setReg16 p v).readMem y = s.readMem y := by cases p <;> rfl
theorem State.setReg16_reg_hi (v : Word) :
    (s.setReg16 .af v).a = hiByte v ∧ (s.setReg16 .bc v).b = hiByte v ∧ (s.setReg16 .de v).d = hiByte v ∧
      (s.setReg16 .hl v).h = hiByte v := ⟨rfl, rfl, rfl, rfl⟩
theorem State.setReg16_reg_lo (v : Word) :
    (s.setReg16 .af v).f = loByte v ∧ (s.setReg16 .bc v).c = loByte v ∧ (s.setReg16 .de v).e = loByte v ∧
      (s.setReg16 .hl v).l = loByte v := ⟨rfl, rfl, rfl, rfl⟩
theorem State.setReg16_f (p : Reg16) (v : Word) (h : p ≠ .af) : (s.setReg16 p v).f = s.f := by
  cases p <;> first | rfl | exact absurd rfl h
@[simp] theorem State.setReg16_sp_reg (v : Word) (q : Reg8) : (s.setReg16 .sp v).reg q = s.reg q := by cases q <;> rfl

/-! ### `writeMem` -/

@[simp] theorem State.writeMem_sp (x : Word) (v : Byte) : (s.writeMem x v).sp = s.sp := rfl
@[simp] theorem State.writeMem_pc (x : Word) (v : Byte) : (s.writeMem x v).pc = s.pc := rfl
@[simp] theorem State.writeMem_mem (x : Word) (v : Byte) : (s.writeMem x v).mem = s.mem.write x v := rfl
@[simp] theorem State.writeMem_run (x : Word) (v : Byte) : (s.writeMem x v).run = s.run := rfl
@[simp] theorem State.writeMem_report (x : Word) (v : Byte) : (s.writeMem x v).report = s.report := rfl
@[simp] theorem State.writeMem_pixels (x : Word) (v : Byte) : (s.writeMem x v).pixels = s.pixels := rfl
@[simp] theorem State.writeMem_reg (x : Word) (v : Byte) (q : Reg8) : (s.writeMem x v).reg q = s.reg q := by cases q <;> rfl
@[simp] theorem State.writeMem_reg16 (x : Word) (v : Byte) (p : Reg16) : (s.writeMem x v).reg16 p = s.reg16 p := by cases p <;> rfl
@[simp] theorem State.writeMem_f (x : Word) (v : Byte) : (s.writeMem x v).f = s.f := rfl
@[simp] theorem State.writeMem_a (x : Word) (v : Byte) : (s.writeMem x v).a = s.a := rfl
@[simp] theorem State.writeMem_flag (x : Word) (v : Byte) (g : Flag) : (s.writeMem x v).flag g = s.flag g := rfl
@[simp] theorem State.writeMem_cond (x : Word) (v : Byte) (k : Cond) : (s.writeMem x v).cond k = s.cond k := by cases k <;> rfl

/-! ### `enterHalted` -/

@[simp] theorem State.enterHalted_sp (r : HaltReport) : (s.enterHalted r).sp = s.sp := rfl
@[simp] theorem State.enterHalted_pc (r : HaltReport) : (s.enterHalted r).pc = s.pc := rfl
@[simp] theorem State.enterHalted_mem (r : HaltReport) : (s.enterHalted r).mem = s.mem := rfl
@[simp] theorem State.enterHalted_run (r : HaltReport) : (s.enterHalted r).run = .halted := rfl
@[simp] theorem State.enterHalted_report (r : HaltReport) : (s.enterHalted r).report = r := rfl
@[simp] theorem State.enterHalted_pixels (r : HaltReport) : (s.enterHalted r).pixels = s.pixels := rfl
@[simp] theorem State.enterHalted_reg (r : HaltReport) (q : Reg8) : (s.enterHalted r).reg q = s.reg q := by cases q <;> rfl
@[simp] theorem State.enterHalted_reg16 (r : HaltReport) (p : Reg16) : (s.enterHalted r).reg16 p = s.reg16 p := by cases p <;> rfl
@[simp] theorem State.enterHalted_f (r : HaltReport) : (s.enterHalted r).f = s.f := rfl
@[simp] theorem State.enterHalted_a (r : HaltReport) : (s.enterHalted r).a = s.a := rfl
@[simp] theorem State.enterHalted_flag (r : HaltReport) (g : Flag) : (s.enterHalted r).flag g = s.flag g := rfl
@[simp] theorem State.enterHalted_cond (r : HaltReport) (k : Cond) : (s.enterHalted r).cond k = s.cond k := by cases k <;> rfl
@[simp] theorem State.enterHalted_readMem (r : HaltReport) (y : Word) : (s.enterHalted r).readMem y = s.readMem y := rfl

/-! ### `raiseDecodeFailure` -/

@[simp] theorem State.raiseDecodeFailure_sp (tb : OpTable) (v : Byte) (x : Word) : (s.raiseDecodeFailure tb v x).sp = s.sp := rfl
@[simp] theorem State.raiseDecodeFailure_pc (tb : OpTable) (v : Byte) (x : Word) : (s.raiseDecodeFailure tb v x).pc = s.pc := rfl
@[simp] theorem State.raiseDecodeFailure_mem (tb : OpTable) (v : Byte) (x : Word) : (s.raiseDecodeFailure tb v x).mem = s.mem := rfl
@[simp] theorem State.raiseDecodeFailure_run (tb : OpTable) (v : Byte) (x : Word) : (s.raiseDecodeFailure tb v x).run = .halted := rfl
@[simp] theorem State.raiseDecodeFailure_report (tb : OpTable) (v : Byte) (x : Word) : (s.raiseDecodeFailure tb v x).report = .decodeFailure tb v x := rfl
@[simp] theorem State.raiseDecodeFailure_pixels (tb : OpTable) (v : Byte) (x : Word) : (s.raiseDecodeFailure tb v x).pixels = s.pixels := rfl
@[simp] theorem State.raiseDecodeFailure_reg (tb : OpTable) (v : Byte) (x : Word) (q : Reg8) : (s.raiseDecodeFailure tb v x).reg q = s.reg q := by cases q <;> rfl
@[simp] theorem State.raiseDecodeFailure_reg16 (tb : OpTable) (v : Byte) (x : Word) (p : Reg16) : (s.raiseDecodeFailure tb v x).reg16 p = s.reg16 p := by cases p <;> rfl
@[simp] theorem State.raiseDecodeFailure_f (tb : OpTable) (v : Byte) (x : Word) : (s.raiseDecodeFailure tb v x).f = s.f := rfl
@[simp] theorem State.raiseDecodeFailure_a (tb : OpTable) (v : Byte) (x : Word) : (s.raiseDecodeFailure tb v x).a = s.a := rfl
@[simp] theorem State.raiseDecodeFailure_flag (tb : OpTable) (v : Byte) (x : Word) (g : Flag) : (s.raiseDecodeFailure tb v x).flag g = s.flag g := rfl
@[simp] theorem State.raiseDecodeFailure_cond (tb : OpTable) (v : Byte) (x : Word) (k : Cond) : (s.raiseDecodeFailure tb v x).cond k = s.cond k := by cases k <;> rfl
@[simp] theorem State.raiseDecodeFailure_readMem (tb : OpTable) (v : Byte) (x : Word) (y : Word) : (s.raiseDecodeFailure tb v x).readMem y = s.readMem y := rfl

/-! ### `setFlag` -/

@[simp] theorem State.setFlag_sp (fl : Flag) (v : Bool) : (s.setFlag fl v).sp = s.sp := rfl
@[simp] theorem State.setFlag_pc (fl : Flag) (v : Bool) : (s.setFlag fl v).pc = s.pc := rfl
@[simp] theorem State.setFlag_mem (fl : Flag) (v : Bool) : (s.setFlag fl v).mem = s.mem := rfl
@[simp] theorem State.setFlag_run (fl : Flag) (v : Bool) : (s.setFlag fl v).run = s.run := rfl
@[simp] theorem State.setFlag_report (fl : Flag) (v : Bool) : (s.setFlag fl v).report = s.report := rfl
@[simp] theorem State.setFlag_pixels (fl : Flag) (v : Bool) : (s.setFlag fl v).pixels = s.pixels := rfl
@[simp] theorem State.setFlag_readMem (fl : Flag) (v : Bool) (y : Word) : (s.setFlag fl v).readMem y = s.readMem y := rfl
theorem State.setFlag_reg (fl : Flag) (v : Bool) (q : Reg8) (h : q ≠ .f) : (s.setFlag fl v).reg q = s.reg q := by
  cases q <;> first | rfl | exact absurd rfl h
theorem State.setFlag_reg16 (fl : Flag) (v : Bool) (p : Reg16) (h : p ≠ .af) :
    (s.setFlag fl v).reg16 p = s.reg16 p := by
  cases p <;> first | rfl | exact absurd rfl h

/-! ### `push16` -/

@[simp] theorem State.push16_sp (v : Word) : (s.push16 v).sp = s.sp - 2 := rfl
@[simp] theorem State.push16_pc (v : Word) : (s.push16 v).pc = s.pc := rfl
@[simp] theorem State.push16_mem (v : Word) : (s.push16 v).mem = (s.mem.write (s.sp - 2 + 1) (hiByte v)).write (s.sp - 2) (loByte v) := rfl
@[simp] theorem State.push16_run (v : Word) : (s.push16 v).run = s.run := rfl
@[simp] theorem State.push16_report (v : Word) : (s.push16 v).report = s.report := rfl
@[simp] theorem State.push16_pixels (v : Word) : (s.push16 v).pixels = s.pixels := rfl
@[simp] theorem State.push16_reg (v : Word) (q : Reg8) : (s.push16 v).reg q = s.reg q := by cases q <;> rfl
theorem State.push16_reg16 (v : Word) (p : Reg16) (hp : p ≠ .sp) : (s.push16 v).reg16 p = s.reg16 p := by
  cases p <;> first | rfl | exact absurd rfl hp
@[simp] theorem State.push16_f (v : Word) : (s.push16 v).f = s.f := rfl
@[simp] theorem State.push16_a (v : Word) : (s.push16 v).a = s.a := rfl
@[simp] theorem State.push16_flag (v : Word) (g : Flag) : (s.push16 v).flag g = s.flag g := rfl
@[simp] theorem State.push16_cond (v : Word) (k : Cond) : (s.push16 v).cond k = s.cond k := by cases k <;> rfl

/-! ### `writeMem` and `readMem`, and the accessors at a named register -/

theorem State.reg_f : s.reg .f = s.f := rfl
theorem State.reg_a : s.reg .a = s.a := rfl
@[simp] theorem State.reg16_sp : s.reg16 .sp = s.sp := rfl

end Sys2Proof.Machine
end

