-- ==== Sys2Proof/Laws/Flags.lean ====
section
/-! SUPPORT. Flag writes: each changes its own flag only (R25), keeps F[3:0], and touches no other field. -/

namespace Sys2Proof.Machine

variable (s : State)

theorem flagMask_write (fl g : Flag) (v : Bool) (f : Byte) :
    decide ((if v then f ||| flagMask fl else f &&& ~~~flagMask fl) &&& flagMask g ≠ 0) =
      if g = fl then v else decide (f &&& flagMask g ≠ 0) := by
  cases fl <;> cases g <;> cases v <;> revert f <;> decide

theorem flagMask_write_low (fl : Flag) (v : Bool) (f : Byte) :
    (if v then f ||| flagMask fl else f &&& ~~~flagMask fl) &&& 0x0F = f &&& 0x0F := by
  cases fl <;> cases v <;> revert f <;> decide

/-- R25: a flag write sets that flag and disturbs no other. -/
@[simp] theorem State.setFlag_flag (fl : Flag) (v : Bool) (g : Flag) :
    (s.setFlag fl v).flag g = if g = fl then v else s.flag g := flagMask_write fl g v s.f

/-- R26: flag writes touch only bits 7 to 4. -/
@[simp] theorem State.setFlag_lowF (fl : Flag) (v : Bool) : (s.setFlag fl v).lowF = s.lowF :=
  flagMask_write_low fl v s.f

/-- What writing Z, N and H leaves: the flags as given, C as it was, F[3:0] and everything else as it was. -/
theorem State.setZNH_spec (z n h : Bool) :
    let t := s.setZNH z n h
    t.flag .z = z ∧ t.flag .n = n ∧ t.flag .h = h ∧ t.flag .c = s.flag .c ∧ t.lowF = s.lowF ∧
      (∀ r, r ≠ .f → t.reg r = s.reg r) ∧ t.sp = s.sp ∧ t.pc = s.pc ∧ t.mem = s.mem ∧ t.run = s.run ∧
      t.report = s.report ∧ t.pixels = s.pixels := by
  simp +contextual [State.setZNH, State.setFlag_reg]

/-- What writing N, H and C leaves. -/
theorem State.setNHC_spec (n h c : Bool) :
    let t := s.setNHC n h c
    t.flag .z = s.flag .z ∧ t.flag .n = n ∧ t.flag .h = h ∧ t.flag .c = c ∧ t.lowF = s.lowF ∧
      (∀ r, r ≠ .f → t.reg r = s.reg r) ∧ t.sp = s.sp ∧ t.pc = s.pc ∧ t.mem = s.mem ∧ t.run = s.run ∧
      t.report = s.report ∧ t.pixels = s.pixels := by
  simp +contextual [State.setNHC, State.setFlag_reg]

/-- What writing all four flags leaves. -/
theorem State.setZNHC_spec (z n h c : Bool) :
    let t := s.setZNHC z n h c
    t.flag .z = z ∧ t.flag .n = n ∧ t.flag .h = h ∧ t.flag .c = c ∧ t.lowF = s.lowF ∧
      (∀ r, r ≠ .f → t.reg r = s.reg r) ∧ t.sp = s.sp ∧ t.pc = s.pc ∧ t.mem = s.mem ∧ t.run = s.run ∧
      t.report = s.report ∧ t.pixels = s.pixels := by
  simp +contextual [State.setZNHC, State.setZNH, State.setFlag_reg]

end Sys2Proof.Machine
end

