-- ==== Sys2Proof/Laws/Forms.lean ====
section
/-! SUPPORT. Every instruction is one of 43 FORMS, a shared operation at operands: `form` names it, and `exec_eq_form` says
once what `exec` does, so that a claim about all instructions is a case split over forms, not over 277 constructors. -/

namespace Sys2Proof.Machine

/-- The shared operations with their operands. -/
inductive Form where
  | nop | stop | halt | di | ei
  | ldRegImm (r : Reg8) (n : Byte) | ldRegReg (dst src : Reg8) | ldRegAtHl (r : Reg8) | ldAtHlReg (r : Reg8)
  | ldReg16Imm (rr : Reg16) (nn : Word) | ldSpFromHl | storeAAt (rr : Reg16) | storeAAtHlInc | storeAAtHlDec
  | storeAHigh (n : Byte) | loadAHigh (n : Byte) | storeAAbs (nn : Word) | loadAAbs (nn : Word)
  | aluAdd (src : Source) | aluSub (src : Source) | aluAnd (src : Source) | aluOr (src : Source) | aluXor (src : Source)
  | aluCp (src : Source) | incReg (r : Reg8) | decReg (r : Reg8)
  | incReg16 (rr : Reg16) | decReg16 (rr : Reg16) | addHlReg16 (rr : Reg16)
  | jump (nn : Word) | jumpIf (k : Cond) (nn : Word) | jumpRel (e : Byte) | jumpRelIf (k : Cond) (e : Byte)
  | callAbs (nn : Word) | callAbsIf (k : Cond) (nn : Word) | retOp | retIf (k : Cond) | restart (v : Byte)
  | pushReg16 (rr : Reg16) | popReg16 (rr : Reg16)
  | prefixedRule (sub : Byte) | swapOperand (o : Operand8) | resOperand (b : BitVec 3) (o : Operand8)
deriving DecidableEq

/-- The state after an instruction of this form. -/
def runForm : Form → State → State
  | .nop, s => nopOp s
  | .stop, s => stopOp s
  | .halt, s => haltOp s
  | .di, s => disableInterrupts s
  | .ei, s => enableInterrupts s
  | .ldRegImm r n, s => ldRegImm r n s
  | .ldRegReg dst src, s => ldRegReg dst src s
  | .ldRegAtHl r, s => ldRegAtHl r s
  | .ldAtHlReg r, s => ldAtHlReg r s
  | .ldReg16Imm rr nn, s => ldReg16Imm rr nn s
  | .ldSpFromHl, s => ldSpFromHl s
  | .storeAAt rr, s => storeAAt rr s
  | .storeAAtHlInc, s => storeAAtHlInc s
  | .storeAAtHlDec, s => storeAAtHlDec s
  | .storeAHigh n, s => storeAHigh n s
  | .loadAHigh n, s => loadAHigh n s
  | .storeAAbs nn, s => storeAAbs nn s
  | .loadAAbs nn, s => loadAAbs nn s
  | .aluAdd src, s => aluAdd src s
  | .aluSub src, s => aluSub src s
  | .aluAnd src, s => aluAnd src s
  | .aluOr src, s => aluOr src s
  | .aluXor src, s => aluXor src s
  | .aluCp src, s => aluCp src s
  | .incReg r, s => incReg r s
  | .decReg r, s => decReg r s
  | .incReg16 rr, s => incReg16 rr s
  | .decReg16 rr, s => decReg16 rr s
  | .addHlReg16 rr, s => addHlReg16 rr s
  | .jump nn, s => jump nn s
  | .jumpIf k nn, s => jumpIf k nn s
  | .jumpRel e, s => jumpRel e s
  | .jumpRelIf k e, s => jumpRelIf k e s
  | .callAbs nn, s => callAbs nn s
  | .callAbsIf k nn, s => callAbsIf k nn s
  | .retOp, s => retOp s
  | .retIf k, s => retIf k s
  | .restart v, s => restart v s
  | .pushReg16 rr, s => pushReg16 rr s
  | .popReg16 rr, s => popReg16 rr s
  | .prefixedRule sub, s => prefixedRule sub s
  | .swapOperand o, s => swapOperand o s
  | .resOperand b o, s => resOperand b o s

/-- The form of each instruction. -/
def form : Instr → Form
  | .nop => .nop
  | .stop => .stop
  | .halt => .halt
  | .di => .di
  | .ei => .ei
  | .ldBcNn nn => .ldReg16Imm .bc nn
  | .ldDeNn nn => .ldReg16Imm .de nn
  | .ldHlNn nn => .ldReg16Imm .hl nn
  | .ldSpNn nn => .ldReg16Imm .sp nn
  | .ldAtBcA => .storeAAt .bc
  | .ldAtDeA => .storeAAt .de
  | .ldAtHlIncA => .storeAAtHlInc
  | .ldAtHlDecA => .storeAAtHlDec
  | .ldBN n => .ldRegImm .b n
  | .ldCN n => .ldRegImm .c n
  | .ldDN n => .ldRegImm .d n
  | .ldEN n => .ldRegImm .e n
  | .ldHN n => .ldRegImm .h n
  | .ldLN n => .ldRegImm .l n
  | .ldAN n => .ldRegImm .a n
  | .ldBB => .ldRegReg .b .b
  | .ldBC => .ldRegReg .b .c
  | .ldBD => .ldRegReg .b .d
  | .ldBE => .ldRegReg .b .e
  | .ldBH => .ldRegReg .b .h
  | .ldBL => .ldRegReg .b .l
  | .ldBAtHl => .ldRegAtHl .b
  | .ldBA => .ldRegReg .b .a
  | .ldCB => .ldRegReg .c .b
  | .ldCC => .ldRegReg .c .c
  | .ldCD => .ldRegReg .c .d
  | .ldCE => .ldRegReg .c .e
  | .ldCH => .ldRegReg .c .h
  | .ldCL => .ldRegReg .c .l
  | .ldCAtHl => .ldRegAtHl .c
  | .ldCA => .ldRegReg .c .a
  | .ldDB => .ldRegReg .d .b
  | .ldDC => .ldRegReg .d .c
  | .ldDD => .ldRegReg .d .d
  | .ldDE => .ldRegReg .d .e
  | .ldDH => .ldRegReg .d .h
  | .ldDL => .ldRegReg .d .l
  | .ldDAtHl => .ldRegAtHl .d
  | .ldDA => .ldRegReg .d .a
  | .ldEB => .ldRegReg .e .b
  | .ldEC => .ldRegReg .e .c
  | .ldED => .ldRegReg .e .d
  | .ldEE => .ldRegReg .e .e
  | .ldEH => .ldRegReg .e .h
  | .ldEL => .ldRegReg .e .l
  | .ldEAtHl => .ldRegAtHl .e
  | .ldEA => .ldRegReg .e .a
  | .ldHB => .ldRegReg .h .b
  | .ldHC => .ldRegReg .h .c
  | .ldHD => .ldRegReg .h .d
  | .ldHE => .ldRegReg .h .e
  | .ldHH => .ldRegReg .h .h
  | .ldHL => .ldRegReg .h .l
  | .ldHAtHl => .ldRegAtHl .h
  | .ldHA => .ldRegReg .h .a
  | .ldLB => .ldRegReg .l .b
  | .ldLC => .ldRegReg .l .c
  | .ldLD => .ldRegReg .l .d
  | .ldLE => .ldRegReg .l .e
  | .ldLH => .ldRegReg .l .h
  | .ldLL => .ldRegReg .l .l
  | .ldLAtHl => .ldRegAtHl .l
  | .ldLA => .ldRegReg .l .a
  | .ldAtHlB => .ldAtHlReg .b
  | .ldAtHlC => .ldAtHlReg .c
  | .ldAtHlD => .ldAtHlReg .d
  | .ldAtHlE => .ldAtHlReg .e
  | .ldAtHlH => .ldAtHlReg .h
  | .ldAtHlL => .ldAtHlReg .l
  | .ldAtHlA => .ldAtHlReg .a
  | .ldAB => .ldRegReg .a .b
  | .ldAC => .ldRegReg .a .c
  | .ldAD => .ldRegReg .a .d
  | .ldAE => .ldRegReg .a .e
  | .ldAH => .ldRegReg .a .h
  | .ldAL => .ldRegReg .a .l
  | .ldAAtHl => .ldRegAtHl .a
  | .ldAA => .ldRegReg .a .a
  | .ldhAtNA n => .storeAHigh n
  | .ldhAAtN n => .loadAHigh n
  | .ldAtNnA nn => .storeAAbs nn
  | .ldAAtNn nn => .loadAAbs nn
  | .ldSpHl => .ldSpFromHl
  | .incB => .incReg .b
  | .decB => .decReg .b
  | .incC => .incReg .c
  | .decC => .decReg .c
  | .incD => .incReg .d
  | .decD => .decReg .d
  | .incE => .incReg .e
  | .decE => .decReg .e
  | .incH => .incReg .h
  | .decH => .decReg .h
  | .incL => .incReg .l
  | .decL => .decReg .l
  | .incA => .incReg .a
  | .decA => .decReg .a
  | .addB => .aluAdd (.reg .b)
  | .addC => .aluAdd (.reg .c)
  | .addD => .aluAdd (.reg .d)
  | .addE => .aluAdd (.reg .e)
  | .addH => .aluAdd (.reg .h)
  | .addL => .aluAdd (.reg .l)
  | .addAtHl => .aluAdd .atHl
  | .addA => .aluAdd (.reg .a)
  | .addN n => .aluAdd (.imm n)
  | .subB => .aluSub (.reg .b)
  | .subC => .aluSub (.reg .c)
  | .subD => .aluSub (.reg .d)
  | .subE => .aluSub (.reg .e)
  | .subH => .aluSub (.reg .h)
  | .subL => .aluSub (.reg .l)
  | .subAtHl => .aluSub .atHl
  | .subA => .aluSub (.reg .a)
  | .subN n => .aluSub (.imm n)
  | .andB => .aluAnd (.reg .b)
  | .andC => .aluAnd (.reg .c)
  | .andD => .aluAnd (.reg .d)
  | .andE => .aluAnd (.reg .e)
  | .andH => .aluAnd (.reg .h)
  | .andL => .aluAnd (.reg .l)
  | .andAtHl => .aluAnd .atHl
  | .andA => .aluAnd (.reg .a)
  | .andN n => .aluAnd (.imm n)
  | .xorB => .aluXor (.reg .b)
  | .xorC => .aluXor (.reg .c)
  | .xorD => .aluXor (.reg .d)
  | .xorE => .aluXor (.reg .e)
  | .xorH => .aluXor (.reg .h)
  | .xorL => .aluXor (.reg .l)
  | .xorAtHl => .aluXor .atHl
  | .xorA => .aluXor (.reg .a)
  | .xorN n => .aluXor (.imm n)
  | .orB => .aluOr (.reg .b)
  | .orC => .aluOr (.reg .c)
  | .orD => .aluOr (.reg .d)
  | .orE => .aluOr (.reg .e)
  | .orH => .aluOr (.reg .h)
  | .orL => .aluOr (.reg .l)
  | .orAtHl => .aluOr .atHl
  | .orA => .aluOr (.reg .a)
  | .orN n => .aluOr (.imm n)
  | .cpB => .aluCp (.reg .b)
  | .cpC => .aluCp (.reg .c)
  | .cpD => .aluCp (.reg .d)
  | .cpE => .aluCp (.reg .e)
  | .cpH => .aluCp (.reg .h)
  | .cpL => .aluCp (.reg .l)
  | .cpAtHl => .aluCp .atHl
  | .cpA => .aluCp (.reg .a)
  | .cpN n => .aluCp (.imm n)
  | .incBc => .incReg16 .bc
  | .decBc => .decReg16 .bc
  | .addHlBc => .addHlReg16 .bc
  | .incDe => .incReg16 .de
  | .decDe => .decReg16 .de
  | .addHlDe => .addHlReg16 .de
  | .incHl => .incReg16 .hl
  | .decHl => .decReg16 .hl
  | .addHlHl => .addHlReg16 .hl
  | .incSp => .incReg16 .sp
  | .decSp => .decReg16 .sp
  | .addHlSp => .addHlReg16 .sp
  | .jr e => .jumpRel e
  | .jrNz e => .jumpRelIf .nz e
  | .jrZ e => .jumpRelIf .z e
  | .jrNc e => .jumpRelIf .nc e
  | .jrC e => .jumpRelIf .c e
  | .retNz => .retIf .nz
  | .jpNz nn => .jumpIf .nz nn
  | .callNz nn => .callAbsIf .nz nn
  | .retZ => .retIf .z
  | .jpZ nn => .jumpIf .z nn
  | .callZ nn => .callAbsIf .z nn
  | .retNc => .retIf .nc
  | .jpNc nn => .jumpIf .nc nn
  | .callNc nn => .callAbsIf .nc nn
  | .retC => .retIf .c
  | .jpC nn => .jumpIf .c nn
  | .callC nn => .callAbsIf .c nn
  | .jp nn => .jump nn
  | .ret => .retOp
  | .call nn => .callAbs nn
  | .rst00 => .restart 0x00
  | .rst08 => .restart 0x08
  | .rst10 => .restart 0x10
  | .rst18 => .restart 0x18
  | .rst20 => .restart 0x20
  | .rst28 => .restart 0x28
  | .rst30 => .restart 0x30
  | .rst38 => .restart 0x38
  | .popBc => .popReg16 .bc
  | .pushBc => .pushReg16 .bc
  | .popDe => .popReg16 .de
  | .pushDe => .pushReg16 .de
  | .popHl => .popReg16 .hl
  | .pushHl => .pushReg16 .hl
  | .popAf => .popReg16 .af
  | .pushAf => .pushReg16 .af
  | .prefixCb sub => .prefixedRule sub
  | .swapB => .swapOperand (.reg .b)
  | .swapC => .swapOperand (.reg .c)
  | .swapD => .swapOperand (.reg .d)
  | .swapE => .swapOperand (.reg .e)
  | .swapH => .swapOperand (.reg .h)
  | .swapL => .swapOperand (.reg .l)
  | .swapAtHl => .swapOperand .atHl
  | .swapA => .swapOperand (.reg .a)
  | .res0B => .resOperand 0 (.reg .b)
  | .res0C => .resOperand 0 (.reg .c)
  | .res0D => .resOperand 0 (.reg .d)
  | .res0E => .resOperand 0 (.reg .e)
  | .res0H => .resOperand 0 (.reg .h)
  | .res0L => .resOperand 0 (.reg .l)
  | .res0AtHl => .resOperand 0 .atHl
  | .res0A => .resOperand 0 (.reg .a)
  | .res1B => .resOperand 1 (.reg .b)
  | .res1C => .resOperand 1 (.reg .c)
  | .res1D => .resOperand 1 (.reg .d)
  | .res1E => .resOperand 1 (.reg .e)
  | .res1H => .resOperand 1 (.reg .h)
  | .res1L => .resOperand 1 (.reg .l)
  | .res1AtHl => .resOperand 1 .atHl
  | .res1A => .resOperand 1 (.reg .a)
  | .res2B => .resOperand 2 (.reg .b)
  | .res2C => .resOperand 2 (.reg .c)
  | .res2D => .resOperand 2 (.reg .d)
  | .res2E => .resOperand 2 (.reg .e)
  | .res2H => .resOperand 2 (.reg .h)
  | .res2L => .resOperand 2 (.reg .l)
  | .res2AtHl => .resOperand 2 .atHl
  | .res2A => .resOperand 2 (.reg .a)
  | .res3B => .resOperand 3 (.reg .b)
  | .res3C => .resOperand 3 (.reg .c)
  | .res3D => .resOperand 3 (.reg .d)
  | .res3E => .resOperand 3 (.reg .e)
  | .res3H => .resOperand 3 (.reg .h)
  | .res3L => .resOperand 3 (.reg .l)
  | .res3AtHl => .resOperand 3 .atHl
  | .res3A => .resOperand 3 (.reg .a)
  | .res4B => .resOperand 4 (.reg .b)
  | .res4C => .resOperand 4 (.reg .c)
  | .res4D => .resOperand 4 (.reg .d)
  | .res4E => .resOperand 4 (.reg .e)
  | .res4H => .resOperand 4 (.reg .h)
  | .res4L => .resOperand 4 (.reg .l)
  | .res4AtHl => .resOperand 4 .atHl
  | .res4A => .resOperand 4 (.reg .a)
  | .res5B => .resOperand 5 (.reg .b)
  | .res5C => .resOperand 5 (.reg .c)
  | .res5D => .resOperand 5 (.reg .d)
  | .res5E => .resOperand 5 (.reg .e)
  | .res5H => .resOperand 5 (.reg .h)
  | .res5L => .resOperand 5 (.reg .l)
  | .res5AtHl => .resOperand 5 .atHl
  | .res5A => .resOperand 5 (.reg .a)
  | .res6B => .resOperand 6 (.reg .b)
  | .res6C => .resOperand 6 (.reg .c)
  | .res6D => .resOperand 6 (.reg .d)
  | .res6E => .resOperand 6 (.reg .e)
  | .res6H => .resOperand 6 (.reg .h)
  | .res6L => .resOperand 6 (.reg .l)
  | .res6AtHl => .resOperand 6 .atHl
  | .res6A => .resOperand 6 (.reg .a)
  | .res7B => .resOperand 7 (.reg .b)
  | .res7C => .resOperand 7 (.reg .c)
  | .res7D => .resOperand 7 (.reg .d)
  | .res7E => .resOperand 7 (.reg .e)
  | .res7H => .resOperand 7 (.reg .h)
  | .res7L => .resOperand 7 (.reg .l)
  | .res7AtHl => .resOperand 7 .atHl
  | .res7A => .resOperand 7 (.reg .a)

theorem exec_eq_form (i : Instr) (s : State) : exec i s = .next (runForm (form i) s) := by cases i <;> rfl

end Sys2Proof.Machine
end

