-- ==== Sys2Proof/Laws/Memory.lean ====
section
/-! SUPPORT. The laws of the sparse stores and of the memory bus: a read after a write, the canonical form kept by every
memory operation, the values of a tabulated store. -/

namespace Sys2Proof.Machine

/-! ## Sparse stores -/

section Sparse
variable {w : Nat}

theorem Sparse.get_erase (m : List (Nat × BitVec w)) (a b : Nat) :
    Sparse.get (Sparse.erase m a) b = if b = a then 0 else Sparse.get m b := by
  induction m with
  | nil => simp [Sparse.erase, Sparse.get]
  | cons p t ih =>
    obtain ⟨k, v⟩ := p
    simp only [Sparse.erase, Sparse.get]
    by_cases hk : k = a
    · rw [if_pos hk, ih]
      by_cases hb : b = a
      · rw [if_pos hb, if_pos hb]
      · rw [if_neg hb, if_neg hb, if_neg (by omega)]
    · rw [if_neg hk, Sparse.get, ih]
      by_cases hkb : k = b
      · rw [if_pos hkb, if_neg (by omega), if_pos hkb]
      · simp only [if_neg hkb]

theorem Sparse.get_insert (m : List (Nat × BitVec w)) (a b : Nat) (v : BitVec w) :
    Sparse.get (Sparse.insert m a v) b = if b = a then v else Sparse.get m b := by
  induction m with
  | nil => simp [Sparse.insert, Sparse.get, eq_comm]
  | cons p t ih =>
    obtain ⟨k, u⟩ := p
    simp only [Sparse.insert]
    split
    · simp only [Sparse.get, ih]
      split <;> split <;> first | rfl | omega
    · split <;> simp only [Sparse.get]
      · rename_i hk
        by_cases hab : a = b
        · rw [if_pos hab, if_pos hab.symm]
        · rw [if_neg hab, if_neg (Ne.symm hab), if_neg (hk ▸ hab)]
      · by_cases hab : a = b
        · rw [if_pos hab, if_pos hab.symm]
        · rw [if_neg hab, if_neg (Ne.symm hab)]

/-- A read after a write: the value written there, and what was there everywhere else. -/
theorem Sparse.get_set (m : List (Nat × BitVec w)) (a b : Nat) (v : BitVec w) :
    Sparse.get (Sparse.set m a v) b = if b = a then v else Sparse.get m b := by
  unfold Sparse.set
  split
  · simp_all [Sparse.get_erase]
  · exact Sparse.get_insert m a b v

theorem Sparse.wfFrom_cons (bound lo k : Nat) (v : BitVec w) (t : List (Nat × BitVec w)) :
    Sparse.wfFrom bound lo ((k, v) :: t) = true ↔
      lo ≤ k ∧ k < bound ∧ v ≠ 0 ∧ Sparse.wfFrom bound (k + 1) t = true := by
  simp [Sparse.wfFrom, and_assoc]

theorem Sparse.wfFrom_mono (bound : Nat) {lo lo' : Nat} (h : lo' ≤ lo) {m : List (Nat × BitVec w)}
    (hm : Sparse.wfFrom bound lo m = true) : Sparse.wfFrom bound lo' m = true := by
  cases m with
  | nil => rfl
  | cons p t =>
    obtain ⟨k, v⟩ := p
    rw [Sparse.wfFrom_cons] at hm ⊢
    exact ⟨by omega, hm.2⟩

theorem Sparse.wfFrom_erase (bound : Nat) (a : Nat) (m : List (Nat × BitVec w)) (lo : Nat)
    (hm : Sparse.wfFrom bound lo m = true) : Sparse.wfFrom bound lo (Sparse.erase m a) = true := by
  induction m generalizing lo with
  | nil => rfl
  | cons p t ih =>
    obtain ⟨k, v⟩ := p
    rw [Sparse.wfFrom_cons] at hm
    simp only [Sparse.erase]
    split
    · exact ih lo (Sparse.wfFrom_mono bound (by omega) hm.2.2.2)
    · rw [Sparse.wfFrom_cons]
      exact ⟨hm.1, hm.2.1, hm.2.2.1, ih _ hm.2.2.2⟩

theorem Sparse.wfFrom_insert (bound : Nat) (a : Nat) (v : BitVec w) (ha : a < bound) (hv : v ≠ 0)
    (m : List (Nat × BitVec w)) (lo : Nat) (hlo : lo ≤ a) (hm : Sparse.wfFrom bound lo m = true) :
    Sparse.wfFrom bound lo (Sparse.insert m a v) = true := by
  induction m generalizing lo with
  | nil => exact (Sparse.wfFrom_cons bound lo a v []).mpr ⟨hlo, ha, hv, rfl⟩
  | cons p t ih =>
    obtain ⟨k, u⟩ := p
    rw [Sparse.wfFrom_cons] at hm
    simp only [Sparse.insert]
    split
    · rw [Sparse.wfFrom_cons]
      exact ⟨hm.1, hm.2.1, hm.2.2.1, ih _ (by omega) hm.2.2.2⟩
    · split
      · subst_vars
        rw [Sparse.wfFrom_cons]
        exact ⟨hlo, ha, hv, hm.2.2.2⟩
      · rw [Sparse.wfFrom_cons, Sparse.wfFrom_cons]
        exact ⟨hlo, ha, hv, by omega, hm.2⟩

/-- Every write keeps the canonical form. -/
theorem Sparse.wfFrom_set (bound a : Nat) (v : BitVec w) (ha : a < bound) (m : List (Nat × BitVec w))
    (hm : Sparse.wfFrom bound 0 m = true) : Sparse.wfFrom bound 0 (Sparse.set m a v) = true := by
  unfold Sparse.set
  split
  · exact Sparse.wfFrom_erase bound a m 0 hm
  · exact Sparse.wfFrom_insert bound a v ha ‹_› m 0 (Nat.zero_le a) hm

/-- A key below the least listed one reads as zero. -/
theorem Sparse.get_of_lt {bound lo : Nat} {m : List (Nat × BitVec w)} (hm : Sparse.wfFrom bound lo m = true) {a : Nat}
    (ha : a < lo) : Sparse.get m a = 0 := by
  induction m generalizing lo with
  | nil => rfl
  | cons p t ih =>
    obtain ⟨k, v⟩ := p
    rw [Sparse.wfFrom_cons] at hm
    simp only [Sparse.get]
    rw [if_neg (by omega)]
    exact ih hm.2.2.2 (by omega)

theorem Sparse.get_tabulate (g : Nat → BitVec w) (k n a : Nat) :
    Sparse.get (Sparse.tabulate g k n) a = if k ≤ a ∧ a < k + n then g a else 0 := by
  induction n generalizing k with
  | zero => simp [Sparse.tabulate, Sparse.get]
  | succ n ih =>
    simp only [Sparse.tabulate]
    split
    · rename_i hz
      rw [ih]
      by_cases hka : k = a
      · subst hka; simp [hz]
      · simp only [show (k + 1 ≤ a ∧ a < k + 1 + n) ↔ (k ≤ a ∧ a < k + (n + 1)) by omega]
    · simp only [Sparse.get, ih]
      by_cases hka : k = a
      · subst hka; simp
      · simp only [hka, if_false, show (k + 1 ≤ a ∧ a < k + 1 + n) ↔ (k ≤ a ∧ a < k + (n + 1)) by omega]

theorem Sparse.wfFrom_tabulate (bound : Nat) (g : Nat → BitVec w) (k n : Nat) (h : k + n ≤ bound) :
    Sparse.wfFrom bound k (Sparse.tabulate g k n) = true := by
  induction n generalizing k with
  | zero => rfl
  | succ n ih =>
    simp only [Sparse.tabulate]
    split
    · exact Sparse.wfFrom_mono bound (Nat.le_succ k) (ih (k + 1) (by omega))
    · rw [Sparse.wfFrom_cons]
      exact ⟨Nat.le_refl k, by omega, ‹_›, ih (k + 1) (by omega)⟩

end Sparse

/-! ## The memory bus -/

/-- R41, R46: a read returns the byte last written there, and a write changes only the addressed byte. -/
@[simp] theorem Memory.read_write (m : Memory) (x y : Word) (v : Byte) :
    (m.write x v).read y = if y = x then v else m.read y := by
  simp only [Memory.read, Memory.write, Sparse.get_set, BitVec.toNat_inj]

theorem Memory.write_wf {m : Memory} (hm : m.wf = true) (x : Word) (v : Byte) : (m.write x v).wf = true :=
  Sparse.wfFrom_set 0x10000 x.toNat v x.isLt m hm

@[simp] theorem State.writeMem_readMem (s : State) (x : Word) (v : Byte) (y : Word) :
    (s.writeMem x v).readMem y = if y = x then v else s.readMem y := Memory.read_write s.mem x y v

theorem loadBytes_wf {m : Memory} (hm : m.wf = true) (addr : Nat) (bytes : List Byte) :
    (loadBytes m addr bytes).wf = true := by
  induction bytes generalizing m addr with
  | nil => exact hm
  | cons v t ih => exact ih (Memory.write_wf hm _ v) (addr + 1)

theorem loadImage_wf {m : Memory} (hm : m.wf = true) (cfg : Config) (image : List Byte) :
    (loadImage cfg m image).wf = true := loadBytes_wf hm 0 _

theorem reset_mem_wf : State.reset.mem.wf = true := rfl

theorem reset_pixels_wf : State.reset.pixels.wf = true := rfl

/-! ## The renderer's buffer -/

theorem render_pixels_wf (cfg : Config) (s : State) : (render cfg s).pixels.wf = true := by
  simp only [render, PixelBuffer.wf]
  exact Sparse.wfFrom_tabulate 0x10000 _ 0 0x10000 (Nat.le_refl _)

end Sys2Proof.Machine
end

