-- ==== Sys2Proof/Laws/Ops.lean ====
section
/-! SUPPORT. One lemma per shared operation of Machine/Ops.lean and Machine/Operands.lean that says everything it can do. -/

namespace Sys2Proof.Machine

variable (s : State)

/-! ## Words and bytes -/

/-- R10: `hi : lo` is `(hi << 8) | lo`. -/
theorem word_toNat (hi lo : Byte) : (word hi lo).toNat = hi.toNat * 0x100 + lo.toNat := by
  have h := Nat.shiftLeft_add_eq_or_of_lt lo.isLt hi.toNat
  rw [Nat.shiftLeft_eq] at h
  exact (BitVec.toNat_append hi lo).trans (by rw [Nat.shiftLeft_eq, ← h])

theorem hiByte_toNat (v : Word) : (hiByte v).toNat = v.toNat / 0x100 := by
  have := v.isLt
  simp only [hiByte, BitVec.extractLsb'_toNat, Nat.shiftRight_eq_div_pow]
  omega

theorem loByte_toNat (v : Word) : (loByte v).toNat = v.toNat % 0x100 := by
  simp only [loByte, BitVec.extractLsb'_toNat, Nat.shiftRight_zero]

@[simp] theorem hiByte_word (hi lo : Byte) : hiByte (word hi lo) = hi := by
  apply BitVec.eq_of_toNat_eq
  rw [hiByte_toNat, word_toNat]
  omega

@[simp] theorem loByte_word (hi lo : Byte) : loByte (word hi lo) = lo := by
  apply BitVec.eq_of_toNat_eq
  rw [loByte_toNat, word_toNat]
  omega

@[simp] theorem word_hiByte_loByte (v : Word) : word (hiByte v) (loByte v) = v := by
  apply BitVec.eq_of_toNat_eq
  rw [word_toNat, hiByte_toNat, loByte_toNat]
  omega

/-! ## The register file -/

/-- R21: a pair reads as its two halves. -/
theorem State.setReg16_reg16 (p : Reg16) (v : Word) : (s.setReg16 p v).reg16 p = v := by
  cases p <;> simp [State.setReg16, State.reg16]

/-! ## Fetch -/

/-- The window is the bytes at PC, PC + 1 and PC + 2. -/
theorem State.fetchWindow_eq :
    s.fetchWindow = (s.readMem s.pc, s.readMem (s.pc + 1), s.readMem (s.pc + 1 + 1)) := rfl

/-! ## The stack -/

/-- What a push leaves in memory (R172): the two bytes, and every other byte as it was. -/
theorem State.push16_readMem (v x : Word) :
    (s.push16 v).readMem x =
      if x = s.sp - 2 then loByte v else if x = s.sp - 2 + 1 then hiByte v else s.readMem x := by
  simp [State.push16, State.writeMem, State.readMem]

/-- What a pop answers and leaves (R173). -/
theorem State.pop16_spec :
    s.pop16 = (word (s.readMem (s.sp + 1)) (s.readMem s.sp), { s with sp := s.sp + 2 }) := rfl

theorem Memory.push_wf {m : Memory} (hm : m.wf = true) (x y : Word) (u v : Byte) :
    ((m.write x u).write y v).wf = true := Memory.write_wf (Memory.write_wf hm x u) y v

/-! ## Operands -/

/-- What a write to an operand leaves: PC, SP, the run state, the report, the pixels and F as they were, and memory in
canonical form if it was. -/
theorem State.write8_frame (o : Operand8) (v : Byte) (ho : o ≠ .reg .f) :
    let t := s.write8 o v
    t.pc = s.pc ∧ t.sp = s.sp ∧ t.run = s.run ∧ t.report = s.report ∧ t.pixels = s.pixels ∧ t.f = s.f ∧
      (s.mem.wf = true → t.mem.wf = true) := by
  cases o with
  | reg r =>
    have hr : r ≠ .f := fun h => ho (h ▸ rfl)
    simp [State.write8, State.setReg_f s r v hr]
  | atHl => exact ⟨rfl, rfl, rfl, rfl, rfl, rfl, fun h => Memory.write_wf h _ _⟩

/-- No register code names F (R63). -/
theorem reg8_ne_f (k : BitVec 3) : reg8 k ≠ .reg .f := by revert k; decide

end Sys2Proof.Machine
end

