-- ==== Sys2Proof/Tests/Slice0.lean ====
section
/-! SUPPORT. The model's own tests: the well-formedness smoke test, the words of spec/opcode_table.json written out bit by
bit from its `encoding` column, single steps on the vectors T1 to T129 and S1 to S9 of 95_test_vectors.md (the expected
results are the spec's), and a named witness for the hypotheses of every statement. -/

namespace Sys2Proof.Tests

open Sys2Proof.Machine

/-! ## Helpers -/

/-- The decoder reads each byte string whole, as the instruction beside it. -/
def decodesTo (l : List (List Byte × Instr)) : Bool := l.all fun p => decide (decode p.1 = .ok (p.2, []))

/-- The bytes placed at PC. -/
def put (s : State) (bytes : List Byte) : State := { s with mem := loadBytes s.mem s.pc.toNat bytes }

/-- One step of `s` with the bytes placed at PC gives that state with `upd` applied, and nothing else changed. -/
def runs (s : State) (bytes : List Byte) (upd : State → State) : Bool :=
  match step (put s bytes) with
  | .next t => decide (t = upd (put s bytes))
  | _ => false

/-- A state equal to its own step. -/
def stays (s : State) : Bool :=
  match step s with
  | .next t => decide (t = s)
  | _ => false

def r0 : State := State.reset

/-! ## Well-formedness -/

theorem test_wf_refuses_member_sub_opcodes :
    [Instr.prefixCb 0x30, .prefixCb 0x37, .prefixCb 0x80, .prefixCb 0xBF].all (fun i => !i.wf) = true := by decide

theorem test_wf_admits_the_rest :
    [Instr.prefixCb 0x2F, .prefixCb 0x38, .prefixCb 0x7F, .prefixCb 0xC0, .ldAN 0xFF, .jr 0x80].all Instr.wf = true := by
  decide

/-! ## Words written out from the table's encodings -/

theorem test_words_stubs : decodesTo
    [([0b00000000], .nop), ([0b00010000], .stop), ([0b01110110], .halt), ([0b11110011], .di), ([0b11111011], .ei)] = true := by decide

theorem test_words_ld_other : decodesTo
    [([0b00000001, 0x34, 0x12], .ldBcNn 0x1234), ([0b00010001, 0x34, 0x12], .ldDeNn 0x1234),
     ([0b00100001, 0x34, 0x12], .ldHlNn 0x1234), ([0b00110001, 0x34, 0x12], .ldSpNn 0x1234),
     ([0b00000010], .ldAtBcA), ([0b00010010], .ldAtDeA), ([0b00100010], .ldAtHlIncA), ([0b00110010], .ldAtHlDecA),
     ([0b00000110, 0x34], .ldBN 0x34), ([0b00001110, 0x34], .ldCN 0x34), ([0b00010110, 0x34], .ldDN 0x34),
     ([0b00011110, 0x34], .ldEN 0x34), ([0b00100110, 0x34], .ldHN 0x34), ([0b00101110, 0x34], .ldLN 0x34),
     ([0b00111110, 0x34], .ldAN 0x34), ([0b11100000, 0x34], .ldhAtNA 0x34), ([0b11110000, 0x34], .ldhAAtN 0x34),
     ([0b11101010, 0x34, 0x12], .ldAtNnA 0x1234), ([0b11111010, 0x34, 0x12], .ldAAtNn 0x1234),
     ([0b11111001], .ldSpHl)] = true := by decide

theorem test_words_inc_dec_add_hl : decodesTo
    [([0b00000011], .incBc), ([0b00001011], .decBc), ([0b00001001], .addHlBc), ([0b00010011], .incDe),
     ([0b00011011], .decDe), ([0b00011001], .addHlDe), ([0b00100011], .incHl), ([0b00101011], .decHl),
     ([0b00101001], .addHlHl), ([0b00110011], .incSp), ([0b00111011], .decSp), ([0b00111001], .addHlSp),
     ([0b00000100], .incB), ([0b00000101], .decB), ([0b00001100], .incC), ([0b00001101], .decC),
     ([0b00010100], .incD), ([0b00010101], .decD), ([0b00011100], .incE), ([0b00011101], .decE),
     ([0b00100100], .incH), ([0b00100101], .decH), ([0b00101100], .incL), ([0b00101101], .decL),
     ([0b00111100], .incA), ([0b00111101], .decA)] = true := by decide

theorem test_words_control : decodesTo
    [([0b00011000, 0x34], .jr 0x34), ([0b00100000, 0x34], .jrNz 0x34), ([0b00101000, 0x34], .jrZ 0x34),
     ([0b00110000, 0x34], .jrNc 0x34), ([0b00111000, 0x34], .jrC 0x34), ([0b11000000], .retNz),
     ([0b11000010, 0x34, 0x12], .jpNz 0x1234), ([0b11000100, 0x34, 0x12], .callNz 0x1234), ([0b11001000], .retZ),
     ([0b11001010, 0x34, 0x12], .jpZ 0x1234), ([0b11001100, 0x34, 0x12], .callZ 0x1234), ([0b11010000], .retNc),
     ([0b11010010, 0x34, 0x12], .jpNc 0x1234), ([0b11010100, 0x34, 0x12], .callNc 0x1234), ([0b11011000], .retC),
     ([0b11011010, 0x34, 0x12], .jpC 0x1234), ([0b11011100, 0x34, 0x12], .callC 0x1234),
     ([0b11000011, 0x34, 0x12], .jp 0x1234), ([0b11001001], .ret), ([0b11001101, 0x34, 0x12], .call 0x1234),
     ([0b11000111], .rst00), ([0b11001111], .rst08), ([0b11010111], .rst10), ([0b11011111], .rst18),
     ([0b11100111], .rst20), ([0b11101111], .rst28), ([0b11110111], .rst30), ([0b11111111], .rst38)] = true := by decide

theorem test_words_ld_bcde : decodesTo
    [([0b01000000], .ldBB), ([0b01000001], .ldBC), ([0b01000010], .ldBD), ([0b01000011], .ldBE),
     ([0b01000100], .ldBH), ([0b01000101], .ldBL), ([0b01000110], .ldBAtHl), ([0b01000111], .ldBA),
     ([0b01001000], .ldCB), ([0b01001001], .ldCC), ([0b01001010], .ldCD), ([0b01001011], .ldCE),
     ([0b01001100], .ldCH), ([0b01001101], .ldCL), ([0b01001110], .ldCAtHl), ([0b01001111], .ldCA),
     ([0b01010000], .ldDB), ([0b01010001], .ldDC), ([0b01010010], .ldDD), ([0b01010011], .ldDE),
     ([0b01010100], .ldDH), ([0b01010101], .ldDL), ([0b01010110], .ldDAtHl), ([0b01010111], .ldDA),
     ([0b01011000], .ldEB), ([0b01011001], .ldEC), ([0b01011010], .ldED), ([0b01011011], .ldEE),
     ([0b01011100], .ldEH), ([0b01011101], .ldEL), ([0b01011110], .ldEAtHl), ([0b01011111], .ldEA)] = true := by decide

theorem test_words_ld_hl_a : decodesTo
    [([0b01100000], .ldHB), ([0b01100001], .ldHC), ([0b01100010], .ldHD), ([0b01100011], .ldHE),
     ([0b01100100], .ldHH), ([0b01100101], .ldHL), ([0b01100110], .ldHAtHl), ([0b01100111], .ldHA),
     ([0b01101000], .ldLB), ([0b01101001], .ldLC), ([0b01101010], .ldLD), ([0b01101011], .ldLE),
     ([0b01101100], .ldLH), ([0b01101101], .ldLL), ([0b01101110], .ldLAtHl), ([0b01101111], .ldLA),
     ([0b01110000], .ldAtHlB), ([0b01110001], .ldAtHlC), ([0b01110010], .ldAtHlD), ([0b01110011], .ldAtHlE),
     ([0b01110100], .ldAtHlH), ([0b01110101], .ldAtHlL), ([0b01110111], .ldAtHlA), ([0b01111000], .ldAB),
     ([0b01111001], .ldAC), ([0b01111010], .ldAD), ([0b01111011], .ldAE), ([0b01111100], .ldAH),
     ([0b01111101], .ldAL), ([0b01111110], .ldAAtHl), ([0b01111111], .ldAA)] = true := by decide

theorem test_words_add_sub_and : decodesTo
    [([0b10000000], .addB), ([0b10000001], .addC), ([0b10000010], .addD), ([0b10000011], .addE),
     ([0b10000100], .addH), ([0b10000101], .addL), ([0b10000110], .addAtHl), ([0b10000111], .addA),
     ([0b11000110, 0x34], .addN 0x34), ([0b10010000], .subB), ([0b10010001], .subC), ([0b10010010], .subD),
     ([0b10010011], .subE), ([0b10010100], .subH), ([0b10010101], .subL), ([0b10010110], .subAtHl),
     ([0b10010111], .subA), ([0b11010110, 0x34], .subN 0x34), ([0b10100000], .andB), ([0b10100001], .andC),
     ([0b10100010], .andD), ([0b10100011], .andE), ([0b10100100], .andH), ([0b10100101], .andL),
     ([0b10100110], .andAtHl), ([0b10100111], .andA), ([0b11100110, 0x34], .andN 0x34)] = true := by decide

theorem test_words_or_xor_cp : decodesTo
    [([0b10101000], .xorB), ([0b10101001], .xorC), ([0b10101010], .xorD), ([0b10101011], .xorE),
     ([0b10101100], .xorH), ([0b10101101], .xorL), ([0b10101110], .xorAtHl), ([0b10101111], .xorA),
     ([0b11101110, 0x34], .xorN 0x34), ([0b10110000], .orB), ([0b10110001], .orC), ([0b10110010], .orD),
     ([0b10110011], .orE), ([0b10110100], .orH), ([0b10110101], .orL), ([0b10110110], .orAtHl),
     ([0b10110111], .orA), ([0b11110110, 0x34], .orN 0x34), ([0b10111000], .cpB), ([0b10111001], .cpC),
     ([0b10111010], .cpD), ([0b10111011], .cpE), ([0b10111100], .cpH), ([0b10111101], .cpL),
     ([0b10111110], .cpAtHl), ([0b10111111], .cpA), ([0b11111110, 0x34], .cpN 0x34)] = true := by decide

theorem test_words_stack : decodesTo
    [([0b11000001], .popBc), ([0b11000101], .pushBc), ([0b11010001], .popDe), ([0b11010101], .pushDe),
     ([0b11100001], .popHl), ([0b11100101], .pushHl), ([0b11110001], .popAf), ([0b11110101], .pushAf)] = true := by decide

theorem test_words_swap : decodesTo
    [([0b11001011, 0b00110000], .swapB), ([0b11001011, 0b00110001], .swapC), ([0b11001011, 0b00110010], .swapD),
     ([0b11001011, 0b00110011], .swapE), ([0b11001011, 0b00110100], .swapH), ([0b11001011, 0b00110101], .swapL),
     ([0b11001011, 0b00110110], .swapAtHl), ([0b11001011, 0b00110111], .swapA)] = true := by decide

theorem test_words_res_0_to_3 : decodesTo
    [([0b11001011, 0b10000000], .res0B), ([0b11001011, 0b10000001], .res0C), ([0b11001011, 0b10000010], .res0D),
     ([0b11001011, 0b10000011], .res0E), ([0b11001011, 0b10000100], .res0H), ([0b11001011, 0b10000101], .res0L),
     ([0b11001011, 0b10000110], .res0AtHl), ([0b11001011, 0b10000111], .res0A),
     ([0b11001011, 0b10001000], .res1B), ([0b11001011, 0b10001001], .res1C), ([0b11001011, 0b10001010], .res1D),
     ([0b11001011, 0b10001011], .res1E), ([0b11001011, 0b10001100], .res1H), ([0b11001011, 0b10001101], .res1L),
     ([0b11001011, 0b10001110], .res1AtHl), ([0b11001011, 0b10001111], .res1A),
     ([0b11001011, 0b10010000], .res2B), ([0b11001011, 0b10010001], .res2C), ([0b11001011, 0b10010010], .res2D),
     ([0b11001011, 0b10010011], .res2E), ([0b11001011, 0b10010100], .res2H), ([0b11001011, 0b10010101], .res2L),
     ([0b11001011, 0b10010110], .res2AtHl), ([0b11001011, 0b10010111], .res2A),
     ([0b11001011, 0b10011000], .res3B), ([0b11001011, 0b10011001], .res3C), ([0b11001011, 0b10011010], .res3D),
     ([0b11001011, 0b10011011], .res3E), ([0b11001011, 0b10011100], .res3H), ([0b11001011, 0b10011101], .res3L),
     ([0b11001011, 0b10011110], .res3AtHl), ([0b11001011, 0b10011111], .res3A)] = true := by decide

theorem test_words_res_4_to_7 : decodesTo
    [([0b11001011, 0b10100000], .res4B), ([0b11001011, 0b10100001], .res4C), ([0b11001011, 0b10100010], .res4D),
     ([0b11001011, 0b10100011], .res4E), ([0b11001011, 0b10100100], .res4H), ([0b11001011, 0b10100101], .res4L),
     ([0b11001011, 0b10100110], .res4AtHl), ([0b11001011, 0b10100111], .res4A),
     ([0b11001011, 0b10101000], .res5B), ([0b11001011, 0b10101001], .res5C), ([0b11001011, 0b10101010], .res5D),
     ([0b11001011, 0b10101011], .res5E), ([0b11001011, 0b10101100], .res5H), ([0b11001011, 0b10101101], .res5L),
     ([0b11001011, 0b10101110], .res5AtHl), ([0b11001011, 0b10101111], .res5A),
     ([0b11001011, 0b10110000], .res6B), ([0b11001011, 0b10110001], .res6C), ([0b11001011, 0b10110010], .res6D),
     ([0b11001011, 0b10110011], .res6E), ([0b11001011, 0b10110100], .res6H), ([0b11001011, 0b10110101], .res6L),
     ([0b11001011, 0b10110110], .res6AtHl), ([0b11001011, 0b10110111], .res6A),
     ([0b11001011, 0b10111000], .res7B), ([0b11001011, 0b10111001], .res7C), ([0b11001011, 0b10111010], .res7D),
     ([0b11001011, 0b10111011], .res7E), ([0b11001011, 0b10111100], .res7H), ([0b11001011, 0b10111101], .res7L),
     ([0b11001011, 0b10111110], .res7AtHl), ([0b11001011, 0b10111111], .res7A)] = true := by decide

theorem test_words_prefix : decode [0b11001011, 0b00000000, 0x99] = .ok (.prefixCb 0, [0x99]) ∧
    decode [0b11001011, 0b01000000] = .ok (.prefixCb 0x40, []) := by decide

theorem test_words_rejected : decode [0xD3] = .error (.notInPrimaryTable 0xD3) ∧
    decode [0x34, 0, 0] = .error (.notInPrimaryTable 0x34) ∧ decode [0x01, 0x34] = .error .truncated := by decide

theorem test_table_words : decodeTableWord 8 0x3C = some .incA ∧ decodeTableWord 8 0x01 = some (.ldBcNn 0) ∧
    decodeTableWord 16 0xCB30 = some .swapB ∧ decodeTableWord 16 0xCBBE = some .res7AtHl ∧
    decodeTableWord 8 0xCB = some (.prefixCb 0) ∧ decodeTableWord 8 0xD3 = none := by decide

/-! ## Single steps (95_test_vectors.md section 2) -/

/-- A stack of one word at 0xFFFC, SP there. -/
def stacked (s : State) (lo hi : Byte) : State := (({ s with sp := 0xFFFC }).writeMem 0xFFFC lo).writeMem 0xFFFD hi

/-- T1, T2. -/
theorem test_ld_r_n :
    (runs r0 [0x06, 0x7F] (fun s => { s with b := 0x7F, pc := 0x0102 }) &&
      runs { r0 with f := 0xF0 } [0x3E, 0x00] (fun s => { s with pc := 0x0102 })) = true := by decide

/-- T3, T4, T5. -/
theorem test_ld_r_r :
    (runs { r0 with b := 0x12 } [0x78] (fun s => { s with a := 0x12, pc := 0x0101 }) &&
      runs { r0 with a := 0x5A } [0x7F] (fun s => { s with pc := 0x0101 }) &&
      runs { r0 with h := 0x12, l := 0x34 } [0x6C] (fun s => { s with l := 0x12, pc := 0x0101 })) = true := by decide

/-- T6, T7. -/
theorem test_ld_r_hl :
    (runs (({ r0 with h := 0xC0 }).writeMem 0xC000 0x5A) [0x7E] (fun s => { s with a := 0x5A, pc := 0x0101 }) &&
      runs (({ r0 with h := 0xC0 }).writeMem 0xC000 0x12) [0x66] (fun s => { s with h := 0x12, pc := 0x0101 })) = true := by decide

/-- T8, T9. -/
theorem test_ld_hl_r :
    (runs { r0 with h := 0xC0, b := 0x77 } [0x70] (fun s => ({ s with pc := 0x0101 }).writeMem 0xC000 0x77) &&
      runs { r0 with h := 0xC0, l := 0x12 } [0x74] (fun s => ({ s with pc := 0x0101 }).writeMem 0xC012 0xC0)) = true := by decide

/-- T10, T11. -/
theorem test_ld_rr_nn :
    (runs r0 [0x21, 0x34, 0x12] (fun s => { s with h := 0x12, l := 0x34, pc := 0x0103 }) &&
      runs r0 [0x31, 0xFE, 0xFF] (fun s => { s with sp := 0xFFFE, pc := 0x0103 })) = true := by decide

/-- T12. -/
theorem test_ld_sp_hl :
    (runs { r0 with h := 0xD0 } [0xF9] (fun s => { s with sp := 0xD000, pc := 0x0101 })) = true := by decide

/-- T13, T14. -/
theorem test_ld_at_pair_a :
    (runs { r0 with b := 0xC1, a := 0x42 } [0x02] (fun s => ({ s with pc := 0x0101 }).writeMem 0xC100 0x42) &&
      runs { r0 with d := 0xC2, a := 0x43 } [0x12] (fun s => ({ s with pc := 0x0101 }).writeMem 0xC200 0x43)) = true := by decide

/-- T15, T16. -/
theorem test_ld_hl_inc_dec_a :
    (runs { r0 with h := 0xFF, l := 0xFF, a := 0x09 } [0x22]
        (fun s => ({ s with h := 0, l := 0, pc := 0x0101 }).writeMem 0xFFFF 0x09) &&
      runs { r0 with a := 0x0A, pc := 0x0200 } [0x32]
        (fun s => ({ s with h := 0xFF, l := 0xFF, pc := 0x0201 }).writeMem 0x0000 0x0A)) = true := by decide

/-- T17, T18, T19. -/
theorem test_ldh :
    (runs { r0 with a := 0x80 } [0xE0, 0x47] (fun s => ({ s with pc := 0x0102 }).writeMem 0xFF47 0x80) &&
      runs { r0 with a := 0x07 } [0xE0, 0xFF] (fun s => ({ s with pc := 0x0102 }).writeMem 0xFFFF 0x07) &&
      runs (r0.writeMem 0xFF44 0x90) [0xF0, 0x44] (fun s => { s with a := 0x90, pc := 0x0102 })) = true := by decide

/-- T20, T21. -/
theorem test_ld_absolute :
    (runs { r0 with a := 0x3C } [0xEA, 0x00, 0xC0] (fun s => ({ s with pc := 0x0103 }).writeMem 0xC000 0x3C) &&
      runs (r0.writeMem 0x1234 0xA5) [0xFA, 0x34, 0x12] (fun s => { s with a := 0xA5, pc := 0x0103 })) = true := by decide

/-- T22, T23. -/
theorem test_fetch_wraps :
    (runs (({ r0 with pc := 0xFFFF }).writeMem 0x0000 0x99) [0x3E] (fun s => { s with a := 0x99, pc := 0x0001 }) &&
      runs (({ r0 with pc := 0xFFFE }).writeMem 0x0000 0x12) [0x21, 0x34]
        (fun s => { s with h := 0x12, l := 0x34, pc := 0x0001 })) = true := by decide

/-- T25, T26, T27. -/
theorem test_add :
    (runs { r0 with a := 0x80 } [0x87] (fun s => { s with a := 0, f := 0x90, pc := 0x0101 }) &&
      runs { r0 with a := 0xFF } [0xC6, 0x01] (fun s => { s with a := 0, f := 0xB0, pc := 0x0102 }) &&
      runs { r0 with a := 0x08 } [0xC6, 0x08] (fun s => { s with a := 0x10, f := 0x20, pc := 0x0102 })) = true := by decide

/-- T29. -/
theorem test_add_hl_memory :
    (runs (({ r0 with a := 0x0F, h := 0xC0 }).writeMem 0xC000 0xF1) [0x86]
        (fun s => { s with a := 0, f := 0xB0, pc := 0x0101 })) = true := by decide

/-- T30, T31, T32. -/
theorem test_sub :
    (runs { r0 with a := 0x3E, b := 0x0F } [0x90] (fun s => { s with a := 0x2F, f := 0x60, pc := 0x0101 }) &&
      runs { r0 with a := 0x42, f := 0x10 } [0x97] (fun s => { s with a := 0, f := 0xC0, pc := 0x0101 }) &&
      runs r0 [0xD6, 0x01] (fun s => { s with a := 0xFF, f := 0x70, pc := 0x0102 })) = true := by decide

/-- T34, T35. -/
theorem test_and :
    (runs { r0 with a := 0xF0 } [0xE6, 0x0F] (fun s => { s with a := 0, f := 0xA0, pc := 0x0102 }) &&
      runs { r0 with a := 0x5A, f := 0x10 } [0xA7] (fun s => { s with f := 0x20, pc := 0x0101 })) = true := by decide

/-- T36, T37. -/
theorem test_or :
    (runs { r0 with f := 0x70 } [0xB0] (fun s => { s with f := 0x80, pc := 0x0101 }) &&
      runs { r0 with a := 0x81, c := 0x18 } [0xB1] (fun s => { s with a := 0x99, pc := 0x0101 })) = true := by decide

/-- T38, T39. -/
theorem test_xor :
    (runs { r0 with a := 0x77, f := 0x70 } [0xAF] (fun s => { s with a := 0, f := 0x80, pc := 0x0101 }) &&
      runs { r0 with a := 0xFF } [0xEE, 0x0F] (fun s => { s with a := 0xF0, pc := 0x0102 })) = true := by decide

/-- T40, T42. -/
theorem test_cp :
    (runs { r0 with a := 0x3C } [0xFE, 0x40] (fun s => { s with f := 0x50, pc := 0x0102 }) &&
      runs { r0 with a := 0x3C } [0xBF] (fun s => { s with f := 0xC0, pc := 0x0101 })) = true := by decide

/-- T44, T46. -/
theorem test_inc_r :
    (runs { r0 with a := 0xFF, f := 0x10 } [0x3C] (fun s => { s with a := 0, f := 0xB0, pc := 0x0101 }) &&
      runs { r0 with l := 0xFF, h := 0x12 } [0x2C] (fun s => { s with f := 0xA0, l := 0, pc := 0x0101 })) = true := by decide

/-- T47, T49. -/
theorem test_dec_r :
    (runs { r0 with f := 0x10 } [0x0D] (fun s => { s with f := 0x70, c := 0xFF, pc := 0x0101 }) &&
      runs { r0 with e := 0x10 } [0x1D] (fun s => { s with f := 0x60, e := 0x0F, pc := 0x0101 })) = true := by decide

/-- T50, T52. -/
theorem test_inc_rr :
    (runs { r0 with b := 0xFF, c := 0xFF } [0x03] (fun s => { s with b := 0, c := 0, pc := 0x0101 }) &&
      runs { r0 with sp := 0xFFFF } [0x33] (fun s => { s with sp := 0, pc := 0x0101 })) = true := by decide

/-- T53, T55. -/
theorem test_dec_rr :
    (runs { r0 with b := 0x01 } [0x0B] (fun s => { s with b := 0, c := 0xFF, pc := 0x0101 }) &&
      runs r0 [0x3B] (fun s => { s with sp := 0xFFFF, pc := 0x0101 })) = true := by decide

/-- T56, T57, T58. -/
theorem test_add_hl_rr :
    (runs { r0 with h := 0x8A, l := 0x23, b := 0x06, c := 0x05 } [0x09]
        (fun s => { s with f := 0x20, h := 0x90, l := 0x28, pc := 0x0101 }) &&
      runs { r0 with h := 0x80 } [0x29] (fun s => { s with f := 0x10, h := 0, pc := 0x0101 }) &&
      runs { r0 with h := 0x0F, l := 0xFF, e := 0x01, f := 0xC0 } [0x19]
        (fun s => { s with f := 0xA0, h := 0x10, l := 0, pc := 0x0101 })) = true := by decide

/-- T60, T61, T62. -/
theorem test_jp :
    (runs r0 [0xC3, 0x00, 0x20] (fun s => { s with pc := 0x2000 }) &&
      runs r0 [0xC2, 0x00, 0x20] (fun s => { s with pc := 0x2000 }) &&
      runs { r0 with f := 0x80 } [0xC2, 0x00, 0x20] (fun s => { s with pc := 0x0103 })) = true := by decide

/-- T63, T64, T65. -/
theorem test_jp_flags :
    (runs { r0 with f := 0x10 } [0xDA, 0x00, 0x20] (fun s => { s with pc := 0x2000 }) &&
      runs { r0 with f := 0x80 } [0xCA, 0x00, 0x20] (fun s => { s with pc := 0x2000 }) &&
      runs { r0 with f := 0x80 } [0xD2, 0x00, 0x20] (fun s => { s with pc := 0x2000 })) = true := by decide

/-- T66, T67, T68, T69. -/
theorem test_jr :
    (runs r0 [0x18, 0xFE] (fun s => { s with pc := 0x0100 }) &&
      runs r0 [0x18, 0x7F] (fun s => { s with pc := 0x0181 }) &&
      runs r0 [0x18, 0x80] (fun s => { s with pc := 0x0082 }) &&
      runs { r0 with pc := 0xFFFE } [0x18, 0x05] (fun s => { s with pc := 0x0005 })) = true := by decide

/-- T70, T71, T72, T73. -/
theorem test_jr_flags :
    (runs { r0 with f := 0x80 } [0x20, 0x10] (fun s => { s with pc := 0x0102 }) &&
      runs r0 [0x20, 0xF0] (fun s => { s with pc := 0x00F2 }) &&
      runs { r0 with f := 0x80 } [0x28, 0x02] (fun s => { s with pc := 0x0104 }) &&
      runs r0 [0x38, 0x02] (fun s => { s with pc := 0x0102 })) = true := by decide

/-- T74, T75. -/
theorem test_call :
    (runs { r0 with sp := 0xFFFE } [0xCD, 0x00, 0x30]
        (fun s => (({ s with sp := 0xFFFC, pc := 0x3000 }).writeMem 0xFFFC 0x03).writeMem 0xFFFD 0x01) &&
      runs r0 [0xCD, 0x00, 0x30]
        (fun s => (({ s with sp := 0xFFFE, pc := 0x3000 }).writeMem 0xFFFE 0x03).writeMem 0xFFFF 0x01)) = true := by decide

/-- T76, T77. -/
theorem test_call_flags :
    (runs { r0 with sp := 0xFFFE, f := 0x80 } [0xC4, 0x00, 0x30] (fun s => { s with pc := 0x0103 }) &&
      runs { r0 with sp := 0xFFFE, f := 0x80 } [0xCC, 0x00, 0x30]
        (fun s => (({ s with sp := 0xFFFC, pc := 0x3000 }).writeMem 0xFFFC 0x03).writeMem 0xFFFD 0x01)) = true := by decide

/-- T78, T79, T80. -/
theorem test_ret :
    (runs (stacked r0 0x09 0x01) [0xC9] (fun s => { s with sp := 0xFFFE, pc := 0x0109 }) &&
      runs (stacked { r0 with f := 0x10 } 0x09 0x01) [0xD0] (fun s => { s with pc := 0x0101 }) &&
      runs (stacked { r0 with f := 0x10 } 0x09 0x01) [0xD8] (fun s => { s with sp := 0xFFFE, pc := 0x0109 })) = true := by decide

/-- T81, T82. -/
theorem test_rst :
    (runs r0 [0xFF]
        (fun s => (({ s with sp := 0xFFFE, pc := 0x0038 }).writeMem 0xFFFE 0x01).writeMem 0xFFFF 0x01) &&
      runs { r0 with sp := 0xD000, pc := 0x1234 } [0xC7]
        (fun s => (({ s with sp := 0xCFFE, pc := 0 }).writeMem 0xCFFE 0x35).writeMem 0xCFFF 0x12)) = true := by decide

/-- T84, T85, T86. -/
theorem test_push :
    (runs { r0 with b := 0x12, c := 0x34 } [0xC5]
        (fun s => (({ s with sp := 0xFFFE, pc := 0x0101 }).writeMem 0xFFFE 0x34).writeMem 0xFFFF 0x12) &&
      runs { r0 with sp := 0x0001, d := 0xAB, e := 0xCD } [0xD5]
        (fun s => (({ s with sp := 0xFFFF, pc := 0x0101 }).writeMem 0x0000 0xAB).writeMem 0xFFFF 0xCD) &&
      runs { r0 with sp := 0xFFFE, a := 0x12, f := 0xB0 } [0xF5]
        (fun s => (({ s with sp := 0xFFFC, pc := 0x0101 }).writeMem 0xFFFC 0xB0).writeMem 0xFFFD 0x12)) = true := by decide

/-- T87, T88. -/
theorem test_pop :
    (runs (stacked r0 0x34 0x12) [0xD1] (fun s => { s with d := 0x12, e := 0x34, sp := 0xFFFE, pc := 0x0101 }) &&
      runs (stacked r0 0xFF 0x12) [0xF1] (fun s => { s with a := 0x12, f := 0xF0, sp := 0xFFFE, pc := 0x0101 })) = true := by decide

/-- T89. -/
theorem test_pop_wraps :
    (runs ((({ r0 with sp := 0xFFFF }).writeMem 0xFFFF 0x78).writeMem 0x0000 0x56) [0xE1]
        (fun s => { s with h := 0x56, l := 0x78, sp := 0x0001, pc := 0x0101 })) = true := by decide

/-- T91, T92, T93. -/
theorem test_swap :
    (runs { r0 with a := 0xF1 } [0xCB, 0x37] (fun s => { s with a := 0x1F, pc := 0x0102 }) &&
      runs { r0 with f := 0x70 } [0xCB, 0x30] (fun s => { s with f := 0x80, pc := 0x0102 }) &&
      runs (({ r0 with h := 0xC0 }).writeMem 0xC000 0xA5) [0xCB, 0x36]
        (fun s => ({ s with pc := 0x0102 }).writeMem 0xC000 0x5A)) = true := by decide

/-- T94, T95, T96. -/
theorem test_res :
    (runs { r0 with a := 0x80, f := 0xF0 } [0xCB, 0xBF] (fun s => { s with a := 0, pc := 0x0102 }) &&
      runs (({ r0 with h := 0xC0 }).writeMem 0xC000 0xFF) [0xCB, 0x86]
        (fun s => ({ s with pc := 0x0102 }).writeMem 0xC000 0xFE) &&
      runs { r0 with e := 0x02 } [0xCB, 0x8B] (fun s => { s with e := 0, pc := 0x0102 })) = true := by decide

/-- T98, T99, T111. -/
theorem test_prefix_failures :
    (runs r0 [0xCB, 0x40]
        (fun s => { s with pc := 0x0102, run := .halted, report := .decodeFailure .prefixed 0x40 0x0101 }) &&
      runs r0 [0xCB, 0xCB]
        (fun s => { s with pc := 0x0102, run := .halted, report := .decodeFailure .prefixed 0xCB 0x0101 }) &&
      runs { r0 with pc := 0xFFFF } [0xCB]
        (fun s => { s with pc := 0x0001, run := .halted, report := .decodeFailure .prefixed 0 0x0000 })) = true := by decide

/-- T100, T101. -/
theorem test_nop_stop :
    (runs { r0 with f := 0xF0 } [0x00] (fun s => { s with pc := 0x0101 }) &&
      runs r0 [0x10] (fun s => { s with pc := 0x0101 })) = true := by decide

/-- T103. -/
theorem test_halt :
    (runs r0 [0x76] (fun s => { s with pc := 0x0101, run := .halted, report := .haltInstruction 0x0100 })) = true := by decide

/-- T105, T106. -/
theorem test_ei_di :
    (runs r0 [0xFB] (fun s => ({ s with pc := 0x0101 }).writeMem 0xFFFF 0x01) &&
      runs (r0.writeMem 0xFFFF 0x5A) [0xF3] (fun s => ({ s with pc := 0x0101 }).writeMem 0xFFFF 0x00)) = true := by decide

/-- T107, T109, T110. -/
theorem test_primary_failures :
    (runs { r0 with h := 0xC0 } [0x34]
        (fun s => { s with pc := 0x0101, run := .halted, report := .decodeFailure .primary 0x34 0x0100 }) &&
      runs r0 [0xCE, 0x05]
        (fun s => { s with pc := 0x0101, run := .halted, report := .decodeFailure .primary 0xCE 0x0100 }) &&
      runs r0 [0xD9]
        (fun s => { s with pc := 0x0101, run := .halted, report := .decodeFailure .primary 0xD9 0x0100 })) = true := by decide

/-- T104: a step in Halted changes nothing, and `step()` returns false. -/
theorem test_step_in_halted :
    stays { r0 with pc := 0x0101, run := .halted, report := .haltInstruction 0x0100 } = true ∧
      ({ r0 with run := .halted }).continues = false ∧ r0.continues = true := by decide

/-- Log 6: the step after `withFetchWord` runs the table's row, also from a halted state. -/
theorem test_with_fetch_word :
    (match step (r0.withFetchWord 8 0x3C) with | .next t => t.a | _ => 0) = 0x01 ∧
      (match step (({ r0 with run := .halted, a := 0x12 }).withFetchWord 16 0xCB37) with | .next t => t.a | _ => 0) = 0x21 := by
  decide

/-! ## Host actions -/

/-- T112, T113, T115 (defaults of R9). -/
theorem test_render :
    renderPixel .default [(0x8000, 0xFF)] 7 0 = 1 ∧ renderPixel .default [(0x8000, 0xFF)] 255 248 = 1 ∧
      renderPixel .default [(0x8000, 0xFF)] 255 249 = 0 ∧ renderPixel .default [(0x8000, 0x80), (0x8001, 0x01)] 0 0 = 1 ∧
      renderPixel .default [(0x8000, 0x80), (0x8001, 0x01)] 7 0 = 2 ∧
      renderPixel .default [(0x8FFE, 0xFF), (0x8FFF, 0xFF), (0x9BFF, 0xFF)] 248 255 = 3 ∧
      renderPixel .default [(0x8FFE, 0xFF), (0x8FFF, 0xFF), (0x9BFF, 0xFF)] 247 255 = 0 := by decide

/-- T116, T117: the map is row-major. -/
theorem test_render_map :
    renderPixel .default [(0x8012, 0xF0), (0x8013, 0xFF), (0x9801, 0x01)] 11 1 = 3 ∧
      renderPixel .default [(0x8012, 0xF0), (0x8013, 0xFF), (0x9801, 0x01)] 12 1 = 2 ∧
      renderPixel .default [(0x8012, 0xF0), (0x8013, 0xFF), (0x9801, 0x01)] 16 1 = 0 ∧
      renderPixel .default [(0x802E, 0x01), (0x9820, 0x02)] 7 15 = 1 ∧
      renderPixel .default [(0x802E, 0x01), (0x9820, 0x02)] 6 15 = 0 := by decide

/-- T119 to T123. -/
theorem test_scanline : [(0, 1), (152, 153), (153, 0), (200, 47), (255, 102)].all
    (fun p => decide ((advanceScanline (r0.writeMem 0xFF44 p.1)).readMem 0xFF44 = p.2)) = true := by decide

/-- T127: an image that ends below 0x0100 leaves NOPs at the reset PC. -/
theorem test_reset_with_image : (State.resetWith .default [0xAA, 0xBB]).mem = [(0, 0xAA), (1, 0xBB)] ∧
    runs (State.resetWith .default [0xFF, 0xFF]) [] (fun s => { s with pc := 0x0101 }) = true := by decide

/-- R232: the render iteration performs no step, an iteration before it performs one. -/
theorem test_driver :
    (match Driver.iterate .default true ⟨r0, 510⟩ with
      | .next (d, ev) => decide (d.k = 511 ∧ d.core.pc = 0x0101 ∧ ev = .stepped) | _ => false) = true ∧
    (match Driver.iterate .default false ⟨r0, 511⟩ with
      | .next (d, ev) => decide (d.k = 511 ∧ d.core.pc = 0x0100 ∧ ev = .quit) | _ => false) = true := by decide

/-- T124, T104, R232: from `k <- 0` the loop steps until the sink quits or the engine is Halted. -/
theorem test_driver_run :
    (match Driver.run .default [true, true, false] (put r0 [0x18, 0xFE]) with
      | .next d => decide (d.k = 2 ∧ d.core = put r0 [0x18, 0xFE]) | _ => false) = true ∧
    (match Driver.run .default [true, true, true] (put r0 [0x76]) with
      | .next d => decide (d.k = 1 ∧ d.core.pc = 0x0101) | _ => false) = true ∧
    (Driver.start r0).k = 0 := by decide

/-- R236: no image, no run. -/
theorem test_boot : State.boot .default none = none ∧ (State.boot .default (some [])).isSome = true := by decide

/-- R71, the spellings of the source and of the rules' examples. -/
theorem test_asm : asm (.ldAN 5) = "LD A,0x05" ∧ asm (.ldBcNn 0x1234) = "LD BC,0x1234" ∧ asm .addB = "ADD A,B" ∧
    asm (.jrNz 0xFC) = "JR NZ,-4" ∧ asm .res7AtHl = "RES 7,(HL)" ∧ asm .ldAtHlIncA = "LD (HL+),A" ∧
    asm .rst38 = "RST 0x38" := by decide

/-! ## Witnesses of the statements' hypotheses -/

theorem witness_StepRunsTheDecodedInstruction :
    r0.run = .running ∧ decodeWindow (r0.readMem r0.pc) (r0.readMem (r0.pc + 1)) (r0.readMem (r0.pc + 2)) = some .nop := by
  decide

/-- LD BC,nn with its operand bytes on both sides of the wrap. -/
theorem witness_StepRunsTheEncodedBytesAtPc :
    let s := put { r0 with pc := 0xFFFE } [0x01, 0x34, 0x12]
    let i := Instr.ldBcNn 0x1234
    s.run = .running ∧ i.wf = true ∧
      ∀ k, k < (encode i).length → s.readMem (s.pc + BitVec.ofNat 16 k) = (encode i).getD k 0 := by decide

theorem witness_StepOfPrimaryNonMemberHalts :
    [0x07, 0x34, 0xFD].all (fun op =>
      let s := put r0 [op]
      decide (s.run = .running ∧ s.readMem s.pc = op ∧ op ∈ Rows.primaryNonMembers)) = true := by decide

theorem witness_PrefixOfNonMemberHalts :
    ∀ sub ∈ [(0x00 : Byte), 0x2F, 0x38, 0x7F, 0xC0, 0xFF], ¬(0x30 ≤ sub ∧ sub ≤ 0x37) ∧ ¬(0x80 ≤ sub ∧ sub ≤ 0xBF) := by
  decide

theorem witness_PrefixOfMemberRunsItsRule :
    (∀ sub ∈ [(0x30 : Byte), 0x37], 0x30 ≤ sub ∧ sub ≤ 0x37) ∧
      ∀ sub ∈ [(0x80 : Byte), 0xBF], 0x80 ≤ sub ∧ sub ≤ 0xBF := by decide

theorem witness_HaltedStepChangesNothing : ({ r0 with run := .halted } : State).run = .halted := rfl

/-- HALT, a primary non-member and a prefixed non-member: the three ways out of Running. -/
theorem witness_OnlyHaltOrDecodeFailureLeavesRunning :
    [[0x76], [0xD3], [0xCB, 0x40]].all (fun bytes =>
      let s := put r0 bytes
      decide (s.run = .running) && match step s with
        | .next t => decide (t.run = .halted)
        | _ => false) = true := by decide

theorem inv_reset : State.reset.Inv := ⟨rfl, rfl, rfl, by decide⟩

theorem witness_StepKeepsTheInvariant :
    ∃ s t : State, s.Inv ∧ step s = .next t ∧ t.pc = 0x0101 := ⟨r0, r0.advance 1, inv_reset, rfl, rfl⟩

theorem witness_ReachableStatesSatisfyTheInvariant :
    Reachable .default (State.resetWith .default []) ∧
      Reachable .default (advanceScanline (State.resetWith .default [])) :=
  ⟨.reset [], .call .advanceScanline _ _ (.reset []) rfl⟩

theorem witness_DecodeOfEncodeIsTheInstruction :
    (Instr.ldBcNn 0xFFFF).wf = true ∧ (Instr.prefixCb 0xFF).wf = true ∧ Instr.res7A.wf = true := by decide

theorem witness_EncodeOfDecodeIsTheBytes :
    decode [0x01, 0x34, 0x12, 0x99] = .ok (.ldBcNn 0x1234, [0x99]) ∧ decode [0xCB, 0xFF] = .ok (.prefixCb 0xFF, []) := by
  decide

theorem witness_PrimaryTableHasTheSpecsMembers :
    decodeWindow 0xFD 0 0 = none ∧ (0xFD : Byte) ∈ Rows.primaryNonMembers ∧ decodeWindow 0xCB 0 0 = some (.prefixCb 0) := by
  decide

/-- The first and last row of each list, and both values of a condition's flag. -/
theorem witness_OperandFieldsNameTheOperands :
    (Instr.ldBN 7, Reg8.b) ∈ Rows.ldRegImm 7 ++ Rows.incReg ++ Rows.decReg ∧
      (Instr.decA, Reg8.a) ∈ Rows.ldRegImm 7 ++ Rows.incReg ++ Rows.decReg ∧
      (Instr.cpN 7, Source.imm 7) ∈ Rows.addA 7 ++ Rows.subA 7 ++ Rows.andA 7 ++ Rows.orA 7 ++ Rows.xorA 7 ++ Rows.cpA 7 ∧
      (Instr.retC, Flag.c, true) ∈ Rows.jpIf 9 ++ Rows.jrIf 1 ++ Rows.callIf 9 ++ Rows.retIf ∧
      (Instr.rst38, (0x0038 : Word)) ∈ Rows.rst ∧ (Instr.res7A, (7 : BitVec 3), Operand8.reg .a) ∈ Rows.res ∧
      r0.cond .nz = true ∧ r0.cond .z = false := by decide

theorem witness_PairsAreViewsOfTheirHalves :
    (Reg16.af, Reg8.a, Reg8.f) ∈ [(Reg16.af, Reg8.a, Reg8.f), (.bc, .b, .c), (.de, .d, .e), (.hl, .h, .l)] := by decide

theorem witness_FlagWriteDisturbsNoOtherBit :
    (Flag.c, 4) ∈ [(Flag.z, 7), (.n, 6), (.h, 5), (.c, 4)] ∧ (0 : Nat) ≠ 4 ∧ (Flag.z : Flag) ≠ .c := by decide

theorem witness_EqualReadsMeanEqualMemories :
    let m := (Memory.write [(0x0000, 0x01), (0x8000, 0x02)] 0x8000 0x00)
    let m' := (Memory.write [] 0x0000 0x01)
    m.wf = true ∧ m'.wf = true ∧ ∀ x : Word, m.read x = m'.read x := ⟨rfl, rfl, fun _ => rfl⟩

/-- Neighbours of the flag writers that are none: LD r,n, INC rr, DEC rr, LD r,r, JP, POP BC, RES, CB before a non-member. -/
theorem witness_OtherInstructionsLeaveF :
    [Instr.ldAN 1, .incSp, .decSp, .ldAA, .jp 5, .popBc, .res0B, .prefixCb 0x38, .nop].all (fun i =>
      let op := (encode i).getD 0 0
      i.wf && decide (¬(op < 0x40 ∧ (op &&& 0x07 = 4 ∨ op &&& 0x07 = 5 ∨ op &&& 0x0F = 9)) ∧ ¬(0x80 ≤ op ∧ op < 0xC0) ∧
        ¬(0xC0 ≤ op ∧ op &&& 0x07 = 6) ∧ op ≠ 0xF1 ∧
        ¬(op = 0xCB ∧ 0x30 ≤ (encode i).getD 1 0 ∧ (encode i).getD 1 0 ≤ 0x37))) = true ∧
      ∃ t, exec (.prefixCb 0x38) r0 = .next t := ⟨by decide, _, rfl⟩


/-! The statements that range over a list of rows. -/
theorem witness_LoadImmediate : (Instr.ldBN 0, Reg8.b) ∈ Rows.ldRegImm 0 := by decide

theorem witness_LoadRegister : (Instr.ldBB, Reg8.b, Reg8.b) ∈ Rows.ldRegReg := by decide

theorem witness_LoadFromHl : (Instr.ldAAtHl, Reg8.a) ∈ Rows.ldRegAtHl := by decide

theorem witness_StoreToHl : (Instr.ldAtHlA, Reg8.a) ∈ Rows.ldAtHlReg := by decide

theorem witness_LoadPairImmediate :
    (Instr.ldBcNn 0xFFFF, Reg16.bc) ∈ Rows.ldReg16Imm 0xFFFF ∧ Reg16.bc ≠ .sp := by decide

theorem witness_StoreAThroughPair : (Instr.ldAtDeA, Reg16.de) ∈ [(Instr.ldAtBcA, Reg16.bc), (.ldAtDeA, .de)] := by decide

theorem witness_StoreAAndMoveHl :
    (Instr.ldAtHlDecA, (0xFFFF : Word)) ∈ [(Instr.ldAtHlIncA, (1 : Word)), (.ldAtHlDecA, 0xFFFF)] := by decide

theorem witness_StoreAHighAndAbsolute :
    (Instr.ldhAtNA 0xFF, (0xFFFF : Word)) ∈
      [(Instr.ldhAtNA 0xFF, BitVec.ofNat 16 (0xFF00 + (0xFF : Byte).toNat)), (.ldAtNnA 7, 7)] := by decide

theorem witness_LoadAHighAndAbsolute :
    (Instr.ldhAAtN 0xFF, (0xFFFF : Word)) ∈
      [(Instr.ldhAAtN 0xFF, BitVec.ofNat 16 (0xFF00 + (0xFF : Byte).toNat)), (.ldAAtNn 7, 7)] := by decide

theorem witness_AddSetsResultAndFlags : (Instr.addN 1, Source.imm 1) ∈ Rows.addA 1 := by decide

theorem witness_SubSetsResultAndFlags : (Instr.subN 1, Source.imm 1) ∈ Rows.subA 1 := by decide

theorem witness_AndSetsResultAndFlags : (Instr.andN 1, Source.imm 1) ∈ Rows.andA 1 := by decide

theorem witness_OrSetsResultAndFlags : (Instr.orN 1, Source.imm 1) ∈ Rows.orA 1 := by decide

theorem witness_XorSetsResultAndFlags : (Instr.xorN 1, Source.imm 1) ∈ Rows.xorA 1 := by decide

theorem witness_CompareSetsFlagsOnly : (Instr.cpAtHl, Source.atHl) ∈ Rows.cpA 1 := by decide

theorem witness_IncrementRegister : (Instr.incA, Reg8.a) ∈ Rows.incReg := by decide

theorem witness_DecrementRegister : (Instr.decA, Reg8.a) ∈ Rows.decReg := by decide

theorem witness_IncrementAndDecrementPair :
    (Instr.incBc, Reg16.bc, (1 : Word)) ∈ Rows.incReg16.map (fun r => (r.1, r.2, (1 : Word))) ∧
      (Instr.decSp, Reg16.sp, (0xFFFF : Word)) ∈ Rows.decReg16.map (fun r => (r.1, r.2, (0xFFFF : Word))) ∧
      Reg16.bc ≠ .sp := by decide

theorem witness_AddHlSetsResultAndFlags : (Instr.addHlSp, Reg16.sp) ∈ Rows.addHl := by decide

/-- Both sides of each condition: from reset NZ and NC hold, with Z and C set they do not. -/
theorem witness_JumpsGoToTheirTarget :
    (Instr.jpNz 9, Flag.z, false) ∈ Rows.jpIf 9 ∧ r0.flag .z = false ∧ ({ r0 with f := 0x80 } : State).flag .z ≠ false ∧
      (Instr.jpC 9, Flag.c, true) ∈ Rows.jpIf 9 ∧ ({ r0 with f := 0x10 } : State).flag .c = true ∧ r0.flag .c ≠ true := by
  decide

theorem witness_RelativeJumpsGoToTheirTarget :
    (Instr.jrNz 0x80, Flag.z, false) ∈ Rows.jrIf 0x80 ∧ r0.flag .z = false ∧
      ({ r0 with f := 0x80 } : State).flag .z ≠ false := by decide

theorem witness_CallsPushAndJump :
    (Instr.callNc 9, Flag.c, false) ∈ Rows.callIf 9 ∧ r0.flag .c = false ∧
      ({ r0 with f := 0x10 } : State).flag .c ≠ false := by decide

theorem witness_ReturnsPopThePc :
    (Instr.retZ, Flag.z, true) ∈ Rows.retIf ∧ ({ r0 with f := 0x80 } : State).flag .z = true ∧ r0.flag .z ≠ true := by
  decide

theorem witness_RestartsPushAndGoToTheVector : (Instr.rst38, (0x0038 : Word)) ∈ Rows.rst := by decide

theorem witness_PushStoresThePair : (Instr.pushAf, Reg16.af) ∈ Rows.push := by decide

theorem witness_PopLoadsThePair : (Instr.popHl, Reg16.hl) ∈ Rows.popPair := by decide

theorem witness_PushThenPopRestores : ({ r0 with f := 0xF0 } : State).f &&& 0x0F = 0 := by decide

theorem witness_SwapExchangesNibbles : (Instr.swapAtHl, Operand8.atHl) ∈ Rows.swap := by decide

theorem witness_ResClearsOneBit : (Instr.res7AtHl, (7 : BitVec 3), Operand8.atHl) ∈ Rows.res := by decide

theorem witness_NopAndStopOnlyMovePc : Instr.stop ∈ [Instr.nop, .stop] := by decide

theorem witness_InterruptToggleWritesTheIeByte : (Instr.di, (0x00 : Byte)) ∈ [(Instr.ei, (0x01 : Byte)), (.di, 0x00)] := by
  decide

theorem witness_RenderComputesEveryPixel : (31 < 32 ∧ 31 < 32 ∧ 7 < 8 ∧ 7 < 8) ∧ 8 * 31 + 7 = 255 := by decide

theorem witness_TileRowPixelsDependOnItsTwoBytes :
    let s : State := r0.writeMem 0x800E 0xFF
    let s' : State := s.writeMem 0x8000 0x55
    let row := tileRowAddr .default (tileIndex .default s.mem 31 31) 7
    let row' := tileRowAddr .default (tileIndex .default s'.mem 31 31) 7
    (31 < 32 ∧ 31 < 32 ∧ 7 < 8 ∧ 7 < 8) ∧ s.readMem row = 0xFF ∧ s.readMem (row + 1) = 0x00 ∧
      s.readMem row = s'.readMem row' ∧ s.readMem (row + 1) = s'.readMem (row' + 1) := by decide

/-- The range's ends are admitted and their neighbours are not; R152's two targets reached by wrap are admitted. -/
theorem witness_AssembledJrReachesItsLabel :
    jrOffset 0x0082 0x0100 = some 0x80 ∧ jrOffset 0x0181 0x0100 = some 0x7F ∧ jrOffset 0x0081 0x0100 = none ∧
      jrOffset 0x0182 0x0100 = none ∧ jrOffset 0xFF82 0x0000 = some 0x80 ∧ jrOffset 0x0005 0xFFFE = some 0x05 ∧
      jrOffset 0xFF81 0x0000 = none ∧ jrOffset 0x0080 0xFFFE = none := by decide

theorem witness_ScanlineAdvancesModulo154 :
    (r0.readMem 0xFF44).toNat < 154 ∧ ((r0.writeMem 0xFF44 153).readMem 0xFF44).toNat < 154 := by decide

/-- Both sides of the statement's condition, and the last byte under the smaller cap. -/
theorem witness_ResetLoadsTheImage :
    ((0x0001 : Word).toNat < [0xAA, (0xBB : Byte)].length ∧ (0x0001 : Word).toNat < Config.default.imageCap.bytes) ∧
      ¬((0x0002 : Word).toNat < [0xAA, (0xBB : Byte)].length) ∧
      (0x3FFF : Word).toNat < ImageCap.cap4000.bytes ∧ ¬((0x4000 : Word).toNat < ImageCap.cap4000.bytes) := by decide

end Sys2Proof.Tests
end

section
/-! PROOF of O20: a flag write seen bit by bit (10_state.md R24, R25). -/

namespace Sys2Proof.Machine

/-- The bit position of a flag in F (R24). -/
def flagBit : Flag → Nat
  | .z => 7
  | .n => 6
  | .h => 5
  | .c => 4

theorem flagBit_lt (fl : Flag) : flagBit fl < 8 := by cases fl <;> decide

theorem flagMask_eq_twoPow (fl : Flag) : flagMask fl = BitVec.twoPow 8 (flagBit fl) := by cases fl <;> rfl

theorem flagMask_getLsbD (fl : Flag) (j : Nat) : (flagMask fl).getLsbD j = decide (flagBit fl = j) := by
  simp [flagMask_eq_twoPow, BitVec.getLsbD_twoPow, flagBit_lt]

/-- R25 at the level of bits: the flag's own bit takes the value, and every other bit of F stays. -/
theorem State.setFlag_f_getLsbD (s : State) (fl : Flag) (v : Bool) (j : Nat) :
    (s.setFlag fl v).f.getLsbD j = if j = flagBit fl then v else s.f.getLsbD j := by
  by_cases hj : j = flagBit fl
  · subst hj
    cases v <;> simp [State.setFlag, flagMask_getLsbD]
  · have hbit : (flagMask fl).getLsbD j = false := by simp [flagMask_getLsbD, Ne.symm hj]
    cases v with
    | false =>
      have hwide : s.f.getLsbD j = true → j < 8 := BitVec.lt_of_getLsbD
      simpa [State.setFlag, hbit, hj] using hwide
    | true => simp [State.setFlag, hbit, hj]

/-- A flag write is a write of F alone: with the old F put back, the state is the old one. -/
theorem State.setFlag_restore_f (s : State) (fl : Flag) (v : Bool) : { s.setFlag fl v with f := s.f } = s := rfl

/-- The rows of O20 place each flag at its bit of F. -/
theorem flagBit_of_mem_rows :
    ∀ row ∈ [(Flag.z, 7), (.n, 6), (.h, 5), (.c, 4)], row.2 = flagBit row.1 := by decide

end Sys2Proof.Machine

namespace Sys2Proof.Proofs

open Sys2Proof.Machine

/-- Settles O20: F bit by bit (`State.setFlag_f_getLsbD`), flag by flag (`State.setFlag_flag`), and the rest of the
state, which a flag write does not touch. -/
theorem flagWriteDisturbsNoOtherBit : Obligations.FlagWriteDisturbsNoOtherBit := by
  unfold Obligations.FlagWriteDisturbsNoOtherBit
  intro s v row hrow
  have hbit := flagBit_of_mem_rows row hrow
  refine ⟨?_, ?_, fun j hj => ?_, fun g hg => ?_, State.setFlag_restore_f s row.1 v⟩
  · rw [State.setFlag_f_getLsbD, if_pos hbit]
  · rw [State.setFlag_flag, if_pos rfl]
  · rw [State.setFlag_f_getLsbD, if_neg (hbit ▸ hj)]
  · rw [State.setFlag_flag, if_neg hg]

end Sys2Proof.Proofs
end

section
/-! PROOFS of O23 to O27 and O29 to O32: the loads (40_loads.md R100 to R104, R106 to R113). Each load is one of four
effects behind `advance`: a write of one register, a write of one pair, a store of one byte, a store followed by a write of
HL. What each effect writes and leaves is said once; a row of `Sys2Proof.Rows` then only has to name its form and its length. -/

namespace Sys2Proof.Machine

/-! ## From an instruction to its form and its length -/

theorem exec_of_form {i : Instr} {fm : Form} (h : form i = fm) (s : State) : exec i s = .next (runForm fm s) :=
  h ▸ exec_eq_form i s

theorem State.pcAfter_of_length {i : Instr} {k : Nat} (h : (encode i).length = k) (s : State) :
    s.pcAfter i = s.pc + BitVec.ofNat 16 k := h ▸ rfl

/-! ## The halves of a pair -/

/-- R21: a write to a pair writes its two halves and no other register; R22: a write to SP writes none. -/
theorem State.setReg16_reg_of_notMem_halves (s : State) {p : Reg16} {q : Reg8} (hq : q ∉ halves p) (v : Word) :
    (s.setReg16 p v).reg q = s.reg q := by
  cases p with
  | sp => exact s.setReg16_sp_reg v q
  | af | bc | de | hl => cases q <;> simp [halves] at hq <;> rfl

/-! ## The effects of a load -/

/-- An instruction whose effect is a write of one register writes nothing else but PC. -/
theorem exec_setReg_spec {s : State} {i : Instr} {k : Nat} {r : Reg8} {v : Byte}
    (hexec : exec i s = .next ((s.advance k).setReg r v)) (hlen : (encode i).length = k) :
    ∃ t, exec i s = .next t ∧ t.reg r = v ∧ t.pc = s.pcAfter i ∧ SameRegsExcept [r] s t ∧ t.sp = s.sp ∧
      SameMemory s t ∧ SameEngine s t := by
  refine ⟨_, hexec, ?_, ?_, fun q hq => ?_, ?_, fun x => ?_, ?_⟩
  · simp
  · simp [State.pcAfter_of_length hlen]
  · simp [List.mem_singleton.not.mp hq]
  · simp
  · simp
  · simp [SameEngine]

/-- An instruction whose effect is a write of one pair writes nothing outside it but PC. -/
theorem exec_setReg16_spec {s : State} {i : Instr} {k : Nat} {p : Reg16} {v : Word}
    (hexec : exec i s = .next ((s.advance k).setReg16 p v)) (hlen : (encode i).length = k) :
    ∃ t, exec i s = .next t ∧ t.reg16 p = v ∧ t.pc = s.pcAfter i ∧ SameRegsExcept (halves p) s t ∧
      (p ≠ .sp → t.sp = s.sp) ∧ SameMemory s t ∧ SameEngine s t := by
  refine ⟨_, hexec, State.setReg16_reg16 _ p v, ?_, fun q hq => ?_, fun hp => ?_, fun x => ?_, ?_⟩
  · simp [State.pcAfter_of_length hlen]
  · simp [State.setReg16_reg_of_notMem_halves _ hq]
  · simp [hp]
  · simp
  · simp [SameEngine]

/-- An instruction whose effect is a store of one byte writes no other byte, and no register but PC. -/
theorem exec_writeMem_spec {s : State} {i : Instr} {k : Nat} {x : Word} {v : Byte}
    (hexec : exec i s = .next ((s.advance k).writeMem x v)) (hlen : (encode i).length = k) :
    ∃ t, exec i s = .next t ∧ t.readMem x = v ∧ t.pc = s.pcAfter i ∧ SameRegsExcept [] s t ∧ t.sp = s.sp ∧
      SameMemoryExcept [x] s t ∧ SameEngine s t := by
  refine ⟨_, hexec, ?_, ?_, fun q _ => ?_, ?_, fun y hy => ?_, ?_⟩
  · simp
  · simp [State.pcAfter_of_length hlen]
  · simp
  · simp
  · simp [List.mem_singleton.not.mp hy]
  · simp [SameEngine]

/-- An instruction whose effect is a store of one byte and then a write of HL writes nothing else but PC. -/
theorem exec_writeMem_setReg16_hl_spec {s : State} {i : Instr} {k : Nat} {x w : Word} {v : Byte}
    (hexec : exec i s = .next (((s.advance k).writeMem x v).setReg16 .hl w)) (hlen : (encode i).length = k) :
    ∃ t, exec i s = .next t ∧ t.readMem x = v ∧ t.reg16 .hl = w ∧ t.pc = s.pcAfter i ∧ SameRegsExcept [.h, .l] s t ∧
      t.sp = s.sp ∧ SameMemoryExcept [x] s t ∧ SameEngine s t := by
  refine ⟨_, hexec, ?_, State.setReg16_reg16 _ .hl w, ?_, fun q hq => ?_, ?_, fun y hy => ?_, ?_⟩
  · simp
  · simp [State.pcAfter_of_length hlen]
  · simp [State.setReg16_reg_of_notMem_halves (p := .hl) _ hq]
  · simp
  · simp [List.mem_singleton.not.mp hy]
  · simp [SameEngine]

/-! ## The addresses and the steps of the forms -/

/-- R62: the I/O-page address does not wrap. -/
theorem highAddr_eq_ofNat (n : Byte) : highAddr n = BitVec.ofNat 16 (0xFF00 + n.toNat) := by
  apply BitVec.eq_of_toNat_eq
  simp [highAddr, zext16]

/-- R109: one less is 0xFFFF more, modulo 0x10000. -/
theorem storeAAtHlDec_eq (s : State) :
    storeAAtHlDec s = ((s.advance 1).writeMem (s.reg16 .hl) s.a).setReg16 .hl (s.reg16 .hl + 0xFFFF) := by
  rw [storeAAtHlDec, BitVec.sub_eq_add_neg]; rfl

/-! ## The rows: form and length -/

theorem ldRegImm_rows (n : Byte) :
    ∀ row ∈ Rows.ldRegImm n, form row.1 = .ldRegImm row.2 n ∧ (encode row.1).length = 2 := by
  intro row hrow
  simp only [Rows.ldRegImm, List.mem_cons, List.not_mem_nil, or_false] at hrow
  rcases hrow with rfl | rfl | rfl | rfl | rfl | rfl | rfl <;> exact ⟨rfl, rfl⟩

theorem ldRegReg_rows :
    ∀ row ∈ Rows.ldRegReg, form row.1 = .ldRegReg row.2.1 row.2.2 ∧ (encode row.1).length = 1 := by decide

theorem ldRegAtHl_rows : ∀ row ∈ Rows.ldRegAtHl, form row.1 = .ldRegAtHl row.2 ∧ (encode row.1).length = 1 := by
  decide

theorem ldAtHlReg_rows : ∀ row ∈ Rows.ldAtHlReg, form row.1 = .ldAtHlReg row.2 ∧ (encode row.1).length = 1 := by
  decide

theorem ldReg16Imm_rows (nn : Word) :
    ∀ row ∈ Rows.ldReg16Imm nn, form row.1 = .ldReg16Imm row.2 nn ∧ (encode row.1).length = 3 := by
  intro row hrow
  simp only [Rows.ldReg16Imm, List.mem_cons, List.not_mem_nil, or_false] at hrow
  rcases hrow with rfl | rfl | rfl | rfl <;> exact ⟨rfl, rfl⟩

theorem storeAAt_rows : ∀ row ∈ [(Instr.ldAtBcA, Reg16.bc), (.ldAtDeA, .de)],
    form row.1 = .storeAAt row.2 ∧ (encode row.1).length = 1 := by decide

end Sys2Proof.Machine

namespace Sys2Proof.Proofs

open Sys2Proof.Machine

/-- Settles O23: LD r,n is a write of one register. -/
theorem loadImmediate : Obligations.LoadImmediate := by
  unfold Obligations.LoadImmediate
  intro n s row hrow
  obtain ⟨hform, hlen⟩ := ldRegImm_rows n row hrow
  exact exec_setReg_spec (exec_of_form hform s) hlen

/-- Settles O24: LD d,s is a write of one register, of the value read before it. -/
theorem loadRegister : Obligations.LoadRegister := by
  unfold Obligations.LoadRegister
  intro s row hrow
  obtain ⟨hform, hlen⟩ := ldRegReg_rows row hrow
  exact exec_setReg_spec (exec_of_form hform s) hlen

/-- Settles O25: LD r,(HL) is a write of one register, of the byte at the old HL. -/
theorem loadFromHl : Obligations.LoadFromHl := by
  unfold Obligations.LoadFromHl
  intro s row hrow
  obtain ⟨hform, hlen⟩ := ldRegAtHl_rows row hrow
  exact exec_setReg_spec (exec_of_form hform s) hlen

/-- Settles O26: LD (HL),r is a store of one byte. -/
theorem storeToHl : Obligations.StoreToHl := by
  unfold Obligations.StoreToHl
  intro s row hrow
  obtain ⟨hform, hlen⟩ := ldAtHlReg_rows row hrow
  exact exec_writeMem_spec (exec_of_form hform s) hlen

/-- Settles O27: LD rr,nn is a write of one pair or of SP. -/
theorem loadPairImmediate : Obligations.LoadPairImmediate := by
  unfold Obligations.LoadPairImmediate
  intro nn s row hrow
  obtain ⟨hform, hlen⟩ := ldReg16Imm_rows nn row hrow
  exact exec_setReg16_spec (exec_of_form hform s) hlen

/-- Settles O29: LD (BC),A and LD (DE),A are stores of one byte. -/
theorem storeAThroughPair : Obligations.StoreAThroughPair := by
  unfold Obligations.StoreAThroughPair
  intro s row hrow
  obtain ⟨hform, hlen⟩ := storeAAt_rows row hrow
  exact exec_writeMem_spec (exec_of_form hform s) hlen

/-- Settles O30: the two rows are one effect, a store at the old HL and HL moved by 1 or by 0xFFFF. -/
theorem storeAAndMoveHl : Obligations.StoreAAndMoveHl := by
  unfold Obligations.StoreAAndMoveHl
  intro s
  rw [List.forall_mem_cons, List.forall_mem_singleton]
  constructor
  · exact exec_writeMem_setReg16_hl_spec (exec_of_form rfl s) rfl
  · have hexec : exec .ldAtHlDecA s = .next (storeAAtHlDec s) := exec_of_form rfl s
    rw [storeAAtHlDec_eq] at hexec
    exact exec_writeMem_setReg16_hl_spec hexec rfl

/-- Settles O31: LDH (n),A and LD (nn),A are stores of one byte, the first at the I/O-page address of n. -/
theorem storeAHighAndAbsolute : Obligations.StoreAHighAndAbsolute := by
  unfold Obligations.StoreAHighAndAbsolute
  intro n nn s
  rw [List.forall_mem_cons, List.forall_mem_singleton, ← highAddr_eq_ofNat]
  constructor
  · exact exec_writeMem_spec (exec_of_form rfl s) rfl
  · exact exec_writeMem_spec (exec_of_form rfl s) rfl

/-- Settles O32: LDH A,(n) and LD A,(nn) are writes of A, the first of the byte at the I/O-page address of n. -/
theorem loadAHighAndAbsolute : Obligations.LoadAHighAndAbsolute := by
  unfold Obligations.LoadAHighAndAbsolute
  intro n nn s
  rw [List.forall_mem_cons, List.forall_mem_singleton, ← highAddr_eq_ofNat]
  constructor
  · exact exec_setReg_spec (r := .a) (exec_of_form rfl s) rfl
  · exact exec_setReg_spec (r := .a) (exec_of_form rfl s) rfl

end Sys2Proof.Proofs
end

section
/-! PROOFS of O33 to O40: the 8-bit arithmetic and logic (41_alu8.md R120 to R127). Every row is one effect behind `advance`:
a write of one register other than F, then a write of all four flags. CP writes A back to itself (R125), and INC and DEC
write C back to itself (R126, R127), so what the effect writes and leaves is said once. -/

namespace Sys2Proof.Machine

/-! ## Writes that change nothing -/

/-- Writing a flag its own value writes nothing. -/
theorem State.setFlag_self (s : State) (fl : Flag) : s.setFlag fl (s.flag fl) = s := by
  have hbyte : ∀ f : Byte,
      (if decide (f &&& flagMask fl ≠ 0) then f ||| flagMask fl else f &&& ~~~flagMask fl) = f := by
    cases fl <;> decide
  exact congrArg (fun f => { s with f := f }) (hbyte s.f)

/-- R126, R127: leaving C is writing C its own value. -/
theorem State.setZNH_eq_setZNHC (s : State) (z n h : Bool) : s.setZNH z n h = s.setZNHC z n h (s.flag .c) := by
  obtain ⟨-, -, -, hc, -⟩ := s.setZNH_spec z n h
  rw [State.setZNHC, ← hc, State.setFlag_self]

/-! ## The effect of an 8-bit operation -/

/-- F[3:0] is part of F, which a write of another register keeps. -/
theorem State.setReg_lowF (s : State) {r : Reg8} (hr : r ≠ .f) (v : Byte) : (s.setReg r v).lowF = s.lowF := by
  simp [State.lowF, State.setReg_f s r v hr]

/-- An instruction whose effect is a write of one register other than F and then of the four flags writes nothing else
but PC. -/
theorem exec_setReg_setZNHC_spec {s : State} {i : Instr} {k : Nat} {r : Reg8} {v : Byte} {z n h c : Bool} (hr : r ≠ .f)
    (hexec : exec i s = .next (((s.advance k).setReg r v).setZNHC z n h c)) (hlen : (encode i).length = k) :
    ∃ t, exec i s = .next t ∧ t.reg r = v ∧ t.pc = s.pcAfter i ∧ FlagsAre s t z n h c ∧
      SameRegsExcept [r, .f] s t ∧ t.sp = s.sp ∧ SameMemory s t ∧ SameEngine s t := by
  obtain ⟨hz, hn, hh, hc, hlow, hreg, hsp, hpc, hmem, hrun, hreport, hpixels⟩ :=
    ((s.advance k).setReg r v).setZNHC_spec z n h c
  refine ⟨_, hexec, ?_, ?_, ⟨hz, hn, hh, hc, ?_⟩, fun q hq => ?_, ?_, fun x => ?_, ?_⟩
  · simp [hreg r hr]
  · simp [hpc, State.pcAfter_of_length hlen]
  · exact hlow.trans (State.setReg_lowF _ hr v)
  · simp only [List.mem_cons, List.not_mem_nil, or_false, not_or] at hq
    simp [hreg q hq.2, hq.1]
  · simp [hsp]
  · simp [State.readMem, hmem]
  · simp [SameEngine, hrun, hreport, hpixels]

/-- R125 as a write: CP writes A back and sets the flags of SUB. -/
theorem aluCp_eq (src : Source) (s : State) :
    aluCp src s = ((s.advance src.length).setReg .a s.a).setSubFlags s.a (s.source src) := rfl

/-- R126: INC r writes C back. -/
theorem incReg_eq {r : Reg8} (hr : r ≠ .f) (s : State) :
    incReg r s = ((s.advance 1).setReg r (s.reg r + 1)).setZNHC (zeroFlag (s.reg r + 1)) false
      (halfCarryAdd (s.reg r) 1) (s.flag .c) := by
  rw [incReg, State.setIncFlags, State.setZNH_eq_setZNHC, State.setReg_flag _ r _ hr, State.advance_flag]

/-- R127: DEC r writes C back. -/
theorem decReg_eq {r : Reg8} (hr : r ≠ .f) (s : State) :
    decReg r s = ((s.advance 1).setReg r (s.reg r - 1)).setZNHC (zeroFlag (s.reg r - 1)) true
      (halfBorrowSub (s.reg r) 1) (s.flag .c) := by
  rw [decReg, State.setDecFlags, State.setZNH_eq_setZNHC, State.setReg_flag _ r _ hr, State.advance_flag]

/-! ## The rows: form and length -/

/-- Forms and lengths of the rows of an ALU operation, compared as two lists: the immediate's row is not a closed term, so
the comparison is by computation and not by `decide`. -/
theorem alu_rows_of_map_eq {op : Source → Form} {rows : List (Instr × Source)}
    (hrows : rows.map (fun row => (form row.1, (encode row.1).length)) =
      rows.map (fun row => (op row.2, row.2.length))) :
    ∀ row ∈ rows, form row.1 = op row.2 ∧ (encode row.1).length = row.2.length :=
  fun row hrow => Prod.mk.inj (List.map_inj_left.mp hrows row hrow)

theorem addA_rows (n : Byte) :
    ∀ row ∈ Rows.addA n, form row.1 = .aluAdd row.2 ∧ (encode row.1).length = row.2.length := alu_rows_of_map_eq rfl

theorem subA_rows (n : Byte) :
    ∀ row ∈ Rows.subA n, form row.1 = .aluSub row.2 ∧ (encode row.1).length = row.2.length := alu_rows_of_map_eq rfl

theorem andA_rows (n : Byte) :
    ∀ row ∈ Rows.andA n, form row.1 = .aluAnd row.2 ∧ (encode row.1).length = row.2.length := alu_rows_of_map_eq rfl

theorem orA_rows (n : Byte) :
    ∀ row ∈ Rows.orA n, form row.1 = .aluOr row.2 ∧ (encode row.1).length = row.2.length := alu_rows_of_map_eq rfl

theorem xorA_rows (n : Byte) :
    ∀ row ∈ Rows.xorA n, form row.1 = .aluXor row.2 ∧ (encode row.1).length = row.2.length := alu_rows_of_map_eq rfl

theorem cpA_rows (n : Byte) :
    ∀ row ∈ Rows.cpA n, form row.1 = .aluCp row.2 ∧ (encode row.1).length = row.2.length := alu_rows_of_map_eq rfl

theorem incReg_rows :
    ∀ row ∈ Rows.incReg, row.2 ≠ .f ∧ form row.1 = .incReg row.2 ∧ (encode row.1).length = 1 := by decide

theorem decReg_rows :
    ∀ row ∈ Rows.decReg, row.2 ≠ .f ∧ form row.1 = .decReg row.2 ∧ (encode row.1).length = 1 := by decide

end Sys2Proof.Machine

namespace Sys2Proof.Proofs

open Sys2Proof.Machine

/-- Settles O33: ADD A,s is a write of A and of the four flags, computed from A and the source before the write. -/
theorem addSetsResultAndFlags : Obligations.AddSetsResultAndFlags := by
  unfold Obligations.AddSetsResultAndFlags
  intro n s row hrow
  obtain ⟨hform, hlen⟩ := addA_rows n row hrow
  exact exec_setReg_setZNHC_spec (r := .a) (by decide) (exec_of_form hform s) hlen

/-- Settles O34: SUB s is a write of A and of the four flags. -/
theorem subSetsResultAndFlags : Obligations.SubSetsResultAndFlags := by
  unfold Obligations.SubSetsResultAndFlags
  intro n s row hrow
  obtain ⟨hform, hlen⟩ := subA_rows n row hrow
  exact exec_setReg_setZNHC_spec (r := .a) (by decide) (exec_of_form hform s) hlen

/-- Settles O35: AND s is a write of A and of the four flags, N, H and C constant. -/
theorem andSetsResultAndFlags : Obligations.AndSetsResultAndFlags := by
  unfold Obligations.AndSetsResultAndFlags
  intro n s row hrow
  obtain ⟨hform, hlen⟩ := andA_rows n row hrow
  exact exec_setReg_setZNHC_spec (r := .a) (by decide) (exec_of_form hform s) hlen

/-- Settles O36: OR s is a write of A and of the four flags, N, H and C constant. -/
theorem orSetsResultAndFlags : Obligations.OrSetsResultAndFlags := by
  unfold Obligations.OrSetsResultAndFlags
  intro n s row hrow
  obtain ⟨hform, hlen⟩ := orA_rows n row hrow
  exact exec_setReg_setZNHC_spec (r := .a) (by decide) (exec_of_form hform s) hlen

/-- Settles O37: XOR s is a write of A and of the four flags, N, H and C constant. -/
theorem xorSetsResultAndFlags : Obligations.XorSetsResultAndFlags := by
  unfold Obligations.XorSetsResultAndFlags
  intro n s row hrow
  obtain ⟨hform, hlen⟩ := xorA_rows n row hrow
  exact exec_setReg_setZNHC_spec (r := .a) (by decide) (exec_of_form hform s) hlen

/-- Settles O38: CP s writes A back (`aluCp_eq`), so that A keeps its value as every other register does. -/
theorem compareSetsFlagsOnly : Obligations.CompareSetsFlagsOnly := by
  unfold Obligations.CompareSetsFlagsOnly
  intro n s row hrow
  obtain ⟨hform, hlen⟩ := cpA_rows n row hrow
  have hexec : exec row.1 s = .next (aluCp row.2 s) := exec_of_form hform s
  rw [aluCp_eq] at hexec
  obtain ⟨t, ht, ha, hpc, hflags, hregs, hrest⟩ := exec_setReg_setZNHC_spec (by decide) hexec hlen
  refine ⟨t, ht, ha, hpc, hflags, fun q hq => ?_, hrest⟩
  by_cases hqa : q = .a
  · exact hqa ▸ ha
  · exact hregs q (List.not_mem_cons_of_ne_of_not_mem hqa hq)

/-- Settles O39: INC r is a write of r and of the four flags, C its own value (`incReg_eq`). -/
theorem incrementRegister : Obligations.IncrementRegister := by
  unfold Obligations.IncrementRegister
  intro s row hrow
  obtain ⟨hr, hform, hlen⟩ := incReg_rows row hrow
  have hexec : exec row.1 s = .next (incReg row.2 s) := exec_of_form hform s
  rw [incReg_eq hr] at hexec
  exact exec_setReg_setZNHC_spec hr hexec hlen

/-- Settles O40: DEC r is a write of r and of the four flags, C its own value (`decReg_eq`). -/
theorem decrementRegister : Obligations.DecrementRegister := by
  unfold Obligations.DecrementRegister
  intro s row hrow
  obtain ⟨hr, hform, hlen⟩ := decReg_rows row hrow
  have hexec : exec row.1 s = .next (decReg row.2 s) := exec_of_form hform s
  rw [decReg_eq hr] at hexec
  exact exec_setReg_setZNHC_spec hr hexec hlen

end Sys2Proof.Proofs
end

section
/-! PROOFS of O41 and O42: the 16-bit arithmetic (42_alu16.md R140 to R142). INC rr and DEC rr are a write of one pair or of
SP, as LD rr,nn is. ADD HL,rr is a write of HL and then of N, H and C, which leaves Z. -/

namespace Sys2Proof.Machine

/-! ## The step of DEC rr -/

/-- R141: one less is 0xFFFF more, modulo 0x10000. -/
theorem decReg16_eq (p : Reg16) (s : State) : decReg16 p s = (s.advance 1).setReg16 p (s.reg16 p + 0xFFFF) := by
  rw [decReg16, BitVec.sub_eq_add_neg]; rfl

/-! ## The effect of ADD HL,rr -/

/-- Writing N, H and C reaches no 16-bit register but AF, whose low half is F. -/
theorem State.setNHC_reg16 (s : State) {p : Reg16} (hp : p ≠ .af) (n h c : Bool) :
    (s.setNHC n h c).reg16 p = s.reg16 p := by
  simp only [State.setNHC, State.setFlag_reg16 _ _ _ p hp]

/-- An instruction whose effect is a write of HL and then of N, H and C writes nothing else but PC; Z is not written. -/
theorem exec_setReg16_hl_setNHC_spec {s : State} {i : Instr} {k : Nat} {v : Word} {n h c : Bool}
    (hexec : exec i s = .next (((s.advance k).setReg16 .hl v).setNHC n h c)) (hlen : (encode i).length = k) :
    ∃ t, exec i s = .next t ∧ t.reg16 .hl = v ∧ t.pc = s.pcAfter i ∧ FlagsAre s t (s.flag .z) n h c ∧
      SameRegsExcept [.h, .l, .f] s t ∧ t.sp = s.sp ∧ SameMemory s t ∧ SameEngine s t := by
  obtain ⟨hz, hn, hh, hc, hlow, hreg, hsp, hpc, hmem, hrun, hreport, hpixels⟩ :=
    ((s.advance k).setReg16 .hl v).setNHC_spec n h c
  refine ⟨_, hexec, ?_, ?_, ⟨hz, hn, hh, hc, hlow⟩, fun q hq => ?_, ?_, fun x => ?_, ?_⟩
  · rw [State.setNHC_reg16 _ (by decide), State.setReg16_reg16]
  · simp [hpc, State.pcAfter_of_length hlen]
  · obtain ⟨hhalves, hf⟩ : q ∉ halves .hl ∧ q ≠ .f := by simpa [halves, and_assoc] using hq
    rw [hreg q hf, State.setReg16_reg_of_notMem_halves _ hhalves, State.advance_reg]
  · simp [hsp]
  · simp [State.readMem, hmem]
  · simp [SameEngine, hrun, hreport, hpixels]

/-! ## The rows: form and length -/

theorem incReg16_rows : ∀ row ∈ Rows.incReg16, form row.1 = .incReg16 row.2 ∧ (encode row.1).length = 1 := by decide

theorem decReg16_rows : ∀ row ∈ Rows.decReg16, form row.1 = .decReg16 row.2 ∧ (encode row.1).length = 1 := by decide

theorem addHl_rows : ∀ row ∈ Rows.addHl, form row.1 = .addHlReg16 row.2 ∧ (encode row.1).length = 1 := by decide

end Sys2Proof.Machine

namespace Sys2Proof.Proofs

open Sys2Proof.Machine

/-- Settles O41: INC rr and DEC rr are a write of one pair or of SP, which moves by 1 or by 0xFFFF (`decReg16_eq`). -/
theorem incrementAndDecrementPair : Obligations.IncrementAndDecrementPair := by
  unfold Obligations.IncrementAndDecrementPair
  intro s
  rw [List.forall_mem_append, List.forall_mem_map, List.forall_mem_map]
  constructor
  · intro row hrow
    obtain ⟨hform, hlen⟩ := incReg16_rows row hrow
    exact exec_setReg16_spec (exec_of_form hform s) hlen
  · intro row hrow
    obtain ⟨hform, hlen⟩ := decReg16_rows row hrow
    have hexec : exec row.1 s = .next (decReg16 row.2 s) := exec_of_form hform s
    rw [decReg16_eq] at hexec
    exact exec_setReg16_spec hexec hlen

/-- Settles O42: ADD HL,rr is a write of HL and of N, H and C, computed from HL and rr before the write. -/
theorem addHlSetsResultAndFlags : Obligations.AddHlSetsResultAndFlags := by
  unfold Obligations.AddHlSetsResultAndFlags
  intro s row hrow
  obtain ⟨hform, hlen⟩ := addHl_rows row hrow
  exact exec_setReg16_hl_setNHC_spec (exec_of_form hform s) hlen

end Sys2Proof.Proofs
end

section
/-! PROOFS of O43 and O45 to O47: jumps, calls, returns and restarts (43_control_transfer.md R150, R151, R154 to R158). Each
is one of four effects: a write of PC, a move of PC past the instruction, a push of the address after the instruction and a
write of PC, a pop into PC. A conditional row is a choice between one of them and the move, made by the flag that its
condition reads (R65); how it chooses is said once for all conditional instructions. -/

namespace Sys2Proof.Machine

/-! ## Conditions -/

/-- The flag that a condition reads and the value it holds at (R65). -/
def condReads : Cond → Flag × Bool
  | .nz => (.z, false)
  | .z => (.z, true)
  | .nc => (.c, false)
  | .c => (.c, true)

theorem State.cond_iff (s : State) (k : Cond) : s.cond k = true ↔ s.flag (condReads k).1 = (condReads k).2 := by
  cases k <;> simp [State.cond, condReads]

/-- The conditional instructions of one kind, row by row in the order NZ, Z, NC, C: each takes its transfer when its flag has
the value its condition holds at, and otherwise only moves PC past itself. -/
theorem exec_conditional_of_map_eq {fm : Cond → Form} {taken : State → State} {n : Nat}
    {rows : List (Instr × Flag × Bool)}
    (hrows : rows.map (fun row => (row.2, form row.1, (encode row.1).length)) =
      [Cond.nz, .z, .nc, .c].map (fun k => (condReads k, fm k, n)))
    (hrun : ∀ k s, runForm (fm k) s = if s.cond k then taken s else s.advance n) (s : State) :
    ∀ row ∈ rows, exec row.1 s = .next (if s.flag row.2.1 = row.2.2 then taken s else s.advance n) ∧
      (encode row.1).length = n := by
  intro row hrow
  have hmem := hrows ▸ List.mem_map_of_mem hrow
  obtain ⟨k, -, hk⟩ := List.mem_map.mp hmem
  simp only [Prod.mk.injEq] at hk
  obtain ⟨hreads, hform, hlen⟩ := hk
  refine ⟨?_, hlen.symm⟩
  rw [exec_of_form hform.symm, hrun, ← hreads]
  simp only [State.cond_iff]

/-- JP cc,nn (R151). -/
theorem exec_jpIf (nn : Word) (s : State) :
    ∀ row ∈ Rows.jpIf nn, exec row.1 s = .next (if s.flag row.2.1 = row.2.2 then jump nn s else s.advance 3) ∧
      (encode row.1).length = 3 :=
  exec_conditional_of_map_eq (fm := (.jumpIf · nn)) rfl (fun _ _ => rfl) s

/-- CALL cc,nn (R155). -/
theorem exec_callIf (nn : Word) (s : State) :
    ∀ row ∈ Rows.callIf nn, exec row.1 s = .next (if s.flag row.2.1 = row.2.2 then callAbs nn s else s.advance 3) ∧
      (encode row.1).length = 3 :=
  exec_conditional_of_map_eq (fm := (.callAbsIf · nn)) rfl (fun _ _ => rfl) s

/-- RET cc (R157). -/
theorem exec_retIf (s : State) :
    ∀ row ∈ Rows.retIf, exec row.1 s = .next (if s.flag row.2.1 = row.2.2 then retOp s else s.advance 1) ∧
      (encode row.1).length = 1 :=
  exec_conditional_of_map_eq (fm := .retIf) rfl (fun _ _ => rfl) s

/-! ## The stack -/

/-- R172: the low byte lies at the new SP. -/
theorem State.push16_readMem_low (s : State) (v : Word) : (s.push16 v).readMem (s.sp - 2) = loByte v := by
  rw [State.push16_readMem, if_pos rfl]

/-- R172: the high byte lies above it, in a slot of its own at every SP, the wrap included. -/
theorem State.push16_readMem_high (s : State) (v : Word) : (s.push16 v).readMem (s.sp - 2 + 1) = hiByte v := by
  have hne : s.sp - 2 + 1 ≠ s.sp - 2 := by bv_omega
  rw [State.push16_readMem, if_neg hne, if_pos rfl]

theorem State.push16_sameMemoryExcept (s : State) (v : Word) :
    SameMemoryExcept [s.sp - 2, s.sp - 2 + 1] s (s.push16 v) := by
  intro x hx
  obtain ⟨hlow, hhigh⟩ : x ≠ s.sp - 2 ∧ x ≠ s.sp - 2 + 1 := by simpa using hx
  rw [State.push16_readMem, if_neg hlow, if_neg hhigh]

/-- R156 as writes: the pop moves SP, and the word it answers goes to PC. -/
theorem retOp_eq (s : State) :
    retOp s = (s.setReg16 .sp (s.sp + 2)).setPc (word (s.readMem (s.sp + 1)) (s.readMem s.sp)) := rfl

/-! ## The effects of a control transfer -/

/-- An instruction whose effect is a write of PC writes nothing else. -/
theorem exec_setPc_spec {s : State} {i : Instr} {w : Word} (hexec : exec i s = .next (s.setPc w)) :
    ∃ t, exec i s = .next t ∧ t.pc = w ∧ SameRegsExcept [] s t ∧ t.sp = s.sp ∧ SameMemory s t ∧ SameEngine s t := by
  refine ⟨_, hexec, ?_, fun q _ => ?_, ?_, fun x => ?_, ?_⟩
  · simp
  · simp
  · simp
  · simp
  · simp [SameEngine]

/-- An instruction that only moves PC past itself writes nothing else. -/
theorem exec_advance_spec {s : State} {i : Instr} {k : Nat} (hexec : exec i s = .next (s.advance k))
    (hlen : (encode i).length = k) :
    ∃ t, exec i s = .next t ∧ t.pc = s.pcAfter i ∧ SameRegsExcept [] s t ∧ t.sp = s.sp ∧ SameMemory s t ∧
      SameEngine s t := by
  have hmove : s.advance k = s.setPc (s.pcAfter i) := by rw [State.pcAfter_of_length hlen]; rfl
  exact exec_setPc_spec (hmove ▸ hexec)

/-- An instruction whose effect is a push of the address after it and a write of PC writes the two stack slots, SP and PC. -/
theorem exec_push16_setPc_spec {s : State} {i : Instr} {k : Nat} {w : Word}
    (hexec : exec i s = .next (((s.advance k).push16 (s.advance k).pc).setPc w)) (hlen : (encode i).length = k) :
    ∃ t, exec i s = .next t ∧ t.pc = w ∧ t.sp = s.sp - 2 ∧ t.readMem (s.sp - 2) = loByte (s.pcAfter i) ∧
      t.readMem (s.sp - 2 + 1) = hiByte (s.pcAfter i) ∧ SameMemoryExcept [s.sp - 2, s.sp - 2 + 1] s t ∧
      SameRegsExcept [] s t ∧ SameEngine s t := by
  rw [State.advance_pc, ← State.pcAfter_of_length hlen] at hexec
  refine ⟨_, hexec, ?_, ?_, ?_, ?_, ?_, fun q _ => ?_, ?_⟩
  · simp
  · simp
  · exact (s.advance k).push16_readMem_low _
  · exact (s.advance k).push16_readMem_high _
  · exact (s.advance k).push16_sameMemoryExcept _
  · simp
  · simp [SameEngine]

/-- An instruction whose effect is a pop into PC writes SP and PC. -/
theorem exec_retOp_spec {s : State} {i : Instr} (hexec : exec i s = .next (retOp s)) :
    ∃ t, exec i s = .next t ∧ t.pc = word (s.readMem (s.sp + 1)) (s.readMem s.sp) ∧ t.sp = s.sp + 2 ∧
      SameRegsExcept [] s t ∧ SameMemory s t ∧ SameEngine s t := by
  rw [retOp_eq] at hexec
  refine ⟨_, hexec, ?_, ?_, fun q _ => ?_, fun x => ?_, ?_⟩
  · simp
  · simp
  · simp
  · simp
  · simp [SameEngine]

/-! ## The rows of RST -/

/-- R158: the vector is a byte, widened with zeros. -/
theorem rst_rows :
    ∀ row ∈ Rows.rst, form row.1 = .restart (loByte row.2) ∧ zext16 (loByte row.2) = row.2 ∧
      (encode row.1).length = 1 := by decide

end Sys2Proof.Machine

namespace Sys2Proof.Proofs

open Sys2Proof.Machine

/-- Settles O43: JP nn is a write of PC; JP cc,nn is the same write or the move past its bytes. -/
theorem jumpsGoToTheirTarget : Obligations.JumpsGoToTheirTarget := by
  unfold Obligations.JumpsGoToTheirTarget
  intro nn s
  refine ⟨exec_setPc_spec (exec_of_form rfl s), fun row hrow => ?_⟩
  obtain ⟨hexec, hlen⟩ := exec_jpIf nn s row hrow
  by_cases hc : s.flag row.2.1 = row.2.2
  · rw [if_pos hc] at hexec ⊢
    exact exec_setPc_spec hexec
  · rw [if_neg hc] at hexec ⊢
    exact exec_advance_spec hexec hlen

/-- Settles O45: CALL nn is a push of the address after it and a write of PC; CALL cc,nn is the same or the move past its
bytes. -/
theorem callsPushAndJump : Obligations.CallsPushAndJump := by
  unfold Obligations.CallsPushAndJump
  intro nn s
  refine ⟨exec_push16_setPc_spec (exec_of_form rfl s) rfl, fun row hrow => ?_⟩
  obtain ⟨hexec, hlen⟩ := exec_callIf nn s row hrow
  constructor
  · intro hc
    rw [if_pos hc] at hexec
    exact exec_push16_setPc_spec hexec hlen
  · intro hc
    rw [if_neg hc] at hexec
    exact exec_advance_spec hexec hlen

/-- Settles O46: RET is a pop into PC; RET cc is the same or the move past its byte. -/
theorem returnsPopThePc : Obligations.ReturnsPopThePc := by
  unfold Obligations.ReturnsPopThePc
  intro s
  refine ⟨exec_retOp_spec (exec_of_form rfl s), fun row hrow => ?_⟩
  obtain ⟨hexec, hlen⟩ := exec_retIf s row hrow
  constructor
  · intro hc
    rw [if_pos hc] at hexec
    exact exec_retOp_spec hexec
  · intro hc
    rw [if_neg hc] at hexec
    exact exec_advance_spec hexec hlen

/-- Settles O47: RST v is the push of a CALL with the vector as its target. -/
theorem restartsPushAndGoToTheVector : Obligations.RestartsPushAndGoToTheVector := by
  unfold Obligations.RestartsPushAndGoToTheVector
  intro s row hrow
  obtain ⟨hform, hvector, hlen⟩ := rst_rows row hrow
  have hexec : exec row.1 s = .next (restart (loByte row.2) s) := exec_of_form hform s
  rw [restart, hvector] at hexec
  exact exec_push16_setPc_spec hexec hlen

end Sys2Proof.Proofs
end

section
/-! PROOF of O48: PUSH rr (44_stack.md R170, R172). It is the push of a CALL with the pair as its word, and PC only moves past
the byte. -/

namespace Sys2Proof.Machine

/-- An instruction whose effect is a move of PC past itself and a push writes the two stack slots, SP and PC. -/
theorem exec_push16_spec {s : State} {i : Instr} {k : Nat} {v : Word}
    (hexec : exec i s = .next ((s.advance k).push16 v)) (hlen : (encode i).length = k) :
    ∃ t, exec i s = .next t ∧ t.sp = s.sp - 2 ∧ t.readMem (s.sp - 2 + 1) = hiByte v ∧
      t.readMem (s.sp - 2) = loByte v ∧ SameMemoryExcept [s.sp - 2, s.sp - 2 + 1] s t ∧ t.pc = s.pcAfter i ∧
      SameRegsExcept [] s t ∧ SameEngine s t := by
  refine ⟨_, hexec, ?_, ?_, ?_, ?_, ?_, fun q _ => ?_, ?_⟩
  · simp
  · exact (s.advance k).push16_readMem_high v
  · exact (s.advance k).push16_readMem_low v
  · exact (s.advance k).push16_sameMemoryExcept v
  · simp [State.pcAfter_of_length hlen]
  · simp
  · simp [SameEngine]

theorem push_rows : ∀ row ∈ Rows.push, form row.1 = .pushReg16 row.2 ∧ (encode row.1).length = 1 := by decide

end Sys2Proof.Machine

namespace Sys2Proof.Proofs

open Sys2Proof.Machine

/-- Settles O48: PUSH rr moves PC past its byte and pushes the pair's value. -/
theorem pushStoresThePair : Obligations.PushStoresThePair := by
  unfold Obligations.PushStoresThePair
  intro s row hrow
  obtain ⟨hform, hlen⟩ := push_rows row hrow
  exact exec_push16_spec (exec_of_form hform s) hlen

end Sys2Proof.Proofs
end

section
/-! PROOF of O57: a tile row's pixels come from its two bytes (48_tile_renderer.md R203, R204, R208). -/

namespace Sys2Proof.Machine

/-- A render pass fills every place of the buffer with the pixel of its column and line (R203). -/
theorem render_pixel (cfg : Config) (s : State) {x y : Nat} (hx : x < 256) (hy : y < 256) :
    (render cfg s).pixels.pixel x y = renderPixel cfg s.mem x y := by
  have hkey : 0 ≤ 256 * x + y ∧ 256 * x + y < 0 + 0x10000 := by omega
  have hcol : (256 * x + y) / 256 = x := by omega
  have hline : (256 * x + y) % 256 = y := by omega
  simp only [render, PixelBuffer.pixel, Sparse.get_tabulate, if_pos hkey, hcol, hline]

/-- The pixel at column c of line r of the tile at (tx, ty) is the colour index that the row's two bytes give (R204). -/
theorem render_pixel_of_tile (cfg : Config) (s : State) {tx ty r c : Nat} (htx : tx < 32) (hty : ty < 32) (hr : r < 8)
    (hc : c < 8) :
    (render cfg s).pixels.pixel (8 * tx + c) (8 * ty + r) =
      colourIndex (s.readMem (tileRowAddr cfg (tileIndex cfg s.mem tx ty) r))
        (s.readMem (tileRowAddr cfg (tileIndex cfg s.mem tx ty) r + 1)) c := by
  have htile : (8 * tx + c) / 8 = tx ∧ (8 * ty + r) / 8 = ty := by omega
  have hoffset : (8 * tx + c) % 8 = c ∧ (8 * ty + r) % 8 = r := by omega
  rw [render_pixel cfg s (by omega) (by omega)]
  simp only [renderPixel, State.readMem, htile, hoffset]

/-- A low plane of ones under a high plane of zeros is index 1 at each of the row's 8 columns. -/
theorem colourIndex_low_ones_high_zeros : ∀ c < 8, colourIndex 0xFF 0x00 c = 1 := by decide

end Sys2Proof.Machine

namespace Sys2Proof.Proofs

open Sys2Proof.Machine

/-- Settles O57: a pixel is `colourIndex` of its row's two bytes, so equal bytes give equal pixels, and the bytes 0xFF,
0x00 give index 1. -/
theorem tileRowPixelsDependOnItsTwoBytes : Obligations.TileRowPixelsDependOnItsTwoBytes := by
  unfold Obligations.TileRowPixelsDependOnItsTwoBytes
  intro cfg s s' tx ty r c htx hty hr hc row row'
  have hpixel := render_pixel_of_tile cfg s htx hty hr hc
  have hpixel' := render_pixel_of_tile cfg s' htx hty hr hc
  constructor
  · intro hlo hhi
    rw [hpixel, hpixel', hlo, hhi]
  · intro hlo hhi
    have hone : (render cfg s).pixels.pixel (8 * tx + c) (8 * ty + r) = 1 := by
      rw [hpixel, hlo, hhi, colourIndex_low_ones_high_zeros c hc]
    exact ⟨hone, by rw [hone]; rfl⟩

end Sys2Proof.Proofs
end

section
/-! PROOFS of O14 to O16 and O18: the decoder and the encoder (30_encoding.md R60 to R75). What the primary table holds is
said once, cell by cell, as the bytes that a cell's instruction encodes to (`decodeWindow_encode_wf`); the other direction,
that an instruction's bytes are found in the table, is a split over the instructions (`decodeWindow_encode_append`). -/

namespace Sys2Proof

open Sys2Proof.Machine

/-! ## From the table to the bytes -/

/-- What a cell of the primary table shows for its opcode and the two bytes after it: nothing for the 51 non-members (R66), and
for a member an instruction that is well formed and encodes to as many of these bytes as the opcode asks for (R61). -/
def primaryCell (op b1 b2 : Byte) : Option (List Byte × Bool) :=
  if op ∈ Rows.primaryNonMembers then none else some ([op, b1, b2].take (opcodeLength op), true)

/-- R182: after 0xCB every sub-opcode decodes to a well-formed instruction whose bytes are these two. -/
theorem decodePrefixed_encode_wf :
    ∀ sub, (encode (decodePrefixed sub), (decodePrefixed sub).wf) = ([0xCB, sub], true) := by decide

/-- The rows of R73 hold what their opcodes say. The cell of 0xCB holds no constructor yet, so it is rewritten before
`encode` is computed. -/
theorem primaryRows_encode_wf (b1 b2 : Byte) :
    (primaryRows b1 b2).map (List.map (Option.map fun i => (encode i, i.wf))) =
      (List.range 16).map fun r => (List.range 16).map fun c => primaryCell (BitVec.ofNat 8 (16 * r + c)) b1 b2 := by
  simp only [primaryRows, primaryRow0, primaryRow1, primaryRow2, primaryRow3, primaryRow4, primaryRow5, primaryRow6,
    primaryRow7, primaryRow8, primaryRow9, primaryRowA, primaryRowB, primaryRowC, primaryRowD, primaryRowE, primaryRowF,
    List.map_cons, List.map_nil, Option.map_some, Option.map_none, decodePrefixed_encode_wf]
  simp only [encode, loByte_word, hiByte_word]
  rfl

/-- A function applied to every cell of a table is applied to the cell that is looked up. -/
theorem getD_getD_map {α β : Type} (f : α → β) (rows : List (List (Option α))) (r c : Nat) :
    ((rows.map (List.map (Option.map f))).getD r []).getD c none = ((rows.getD r []).getD c none).map f := by
  have hrow : (rows.map (List.map (Option.map f))).getD r [] = (rows.getD r []).map (Option.map f) :=
    List.getD_map rows [] (List.map (Option.map f))
  rw [hrow]
  exact List.getD_map (rows.getD r []) none (Option.map f)

/-- R66, R75: what `decodeWindow` answers, for every opcode and every two bytes after it. -/
theorem decodeWindow_encode_wf (op b1 b2 : Byte) :
    (decodeWindow op b1 b2).map (fun i => (encode i, i.wf)) = primaryCell op b1 b2 := by
  have hrow : op.toNat / 16 < 16 := by omega
  have hcol : op.toNat % 16 < 16 := by omega
  have hop : BitVec.ofNat 8 (16 * (op.toNat / 16) + op.toNat % 16) = op := by
    rw [Nat.div_add_mod, BitVec.ofNat_toNat, BitVec.setWidth_eq]
  rw [decodeWindow, ← getD_getD_map, primaryRows_encode_wf]
  simp [List.getD, hrow, hcol, hop]

theorem decodeWindow_eq_none_iff (op b1 b2 : Byte) : decodeWindow op b1 b2 = none ↔ op ∈ Rows.primaryNonMembers := by
  have hcell := decodeWindow_encode_wf op b1 b2
  rw [← Option.map_eq_none_iff (f := fun i => (encode i, i.wf)), hcell]
  simp [primaryCell]

theorem encode_of_decodeWindow {op b1 b2 : Byte} {i : Instr} (h : decodeWindow op b1 b2 = some i) :
    i.wf = true ∧ encode i = [op, b1, b2].take (opcodeLength op) := by
  have hcell := decodeWindow_encode_wf op b1 b2
  have hmem : op ∉ Rows.primaryNonMembers := by simp [← decodeWindow_eq_none_iff op b1 b2, h]
  rw [h, primaryCell, if_neg hmem] at hcell
  simpa [and_comm] using hcell

/-! ## From the bytes to the table -/

/-- The bytes of a well-formed instruction, whatever follows them, are a window on it. -/
theorem decodeWindow_encode_append {i : Instr} (hwf : i.wf = true) (rest : List Byte) :
    decodeWindow ((encode i ++ rest).getD 0 0) ((encode i ++ rest).getD 1 0) ((encode i ++ rest).getD 2 0) = some i := by
  cases i with
  | prefixCb sub =>
    have hsub : isPrefixedMember sub = false := by simpa [Instr.wf] using hwf
    exact (decodeWindow_prefix sub _).trans (congrArg some (decodePrefixed_of_not_member hsub))
  | ldBcNn nn | ldDeNn nn | ldHlNn nn | ldSpNn nn | ldAtNnA nn | ldAAtNn nn | jp nn | jpNz nn | jpZ nn | jpNc nn | jpC nn
  | call nn | callNz nn | callZ nn | callNc nn | callC nn =>
    rw [← word_hiByte_loByte nn]
    simp only [encode, loByte_word, hiByte_word, List.cons_append, List.getD_cons_zero, List.getD_cons_succ]
    rfl
  | _ => simp only [encode, List.cons_append, List.getD_cons_zero, List.getD_cons_succ]; rfl

/-! ## The decoder on byte strings -/

theorem opcodeLength_bounds : ∀ op, 1 ≤ opcodeLength op ∧ opcodeLength op ≤ 3 := by decide

/-- R61 for every instruction: its bytes are an opcode and as many more as the opcode asks for. -/
theorem encode_eq_cons (i : Instr) : ∃ op ops, encode i = op :: ops ∧ ops.length + 1 = opcodeLength op := by
  cases i <;> exact ⟨_, _, rfl, rfl⟩

/-- What an answer of `decode` says: the string is long enough, the window decodes, and the rest is what follows. -/
theorem decode_cons_eq_ok_iff {op : Byte} {tail rest : List Byte} {i : Instr} :
    decode (op :: tail) = .ok (i, rest) ↔
      opcodeLength op ≤ tail.length + 1 ∧ decodeWindow op (tail.getD 0 0) (tail.getD 1 0) = some i ∧
        tail.drop (opcodeLength op - 1) = rest := by
  rw [decode]
  by_cases hlen : tail.length + 1 < opcodeLength op
  · simp [hlen]
  · cases hwin : decodeWindow op (tail.getD 0 0) (tail.getD 1 0) with
    | none => simp [hlen]
    | some j => simp [hlen, Nat.le_of_not_lt hlen]

/-- The window's bytes that belong to the instruction and the bytes after it are the string. -/
theorem take_window_append_drop {n : Nat} (hn : 1 ≤ n ∧ n ≤ 3) {op : Byte} {tail : List Byte} (hlen : n ≤ tail.length + 1) :
    [op, tail.getD 0 0, tail.getD 1 0].take n ++ tail.drop (n - 1) = op :: tail := by
  obtain rfl | rfl | rfl : n = 1 ∨ n = 2 ∨ n = 3 := by omega
  · rfl
  · match tail, hlen with
    | _ :: _, _ => rfl
  · match tail, hlen with
    | _ :: _ :: _, _ => rfl

end Sys2Proof

namespace Sys2Proof.Proofs

open Sys2Proof.Machine

/-- Settles O14: the bytes of an instruction are an opcode and its operands, as many as `decode` takes, and their window
decodes to it. -/
theorem decodeOfEncodeIsTheInstruction : Obligations.DecodeOfEncodeIsTheInstruction := by
  unfold Obligations.DecodeOfEncodeIsTheInstruction
  intro i rest hwf
  obtain ⟨op, ops, hbytes, hlen⟩ := encode_eq_cons i
  have hwin := decodeWindow_encode_append hwf rest
  rw [hbytes] at hwin ⊢
  rw [List.cons_append, decode_cons_eq_ok_iff, ← hlen]
  exact ⟨by simp, hwin, by simp⟩

/-- Settles O15: a window that decodes holds the bytes of its instruction (`encode_of_decodeWindow`). -/
theorem encodeOfDecodeIsTheBytes : Obligations.EncodeOfDecodeIsTheBytes := by
  unfold Obligations.EncodeOfDecodeIsTheBytes
  intro bytes rest i hdec
  cases bytes with
  | nil => cases hdec
  | cons op tail =>
    obtain ⟨hlen, hwin, rfl⟩ := decode_cons_eq_ok_iff.mp hdec
    obtain ⟨hwf, henc⟩ := encode_of_decodeWindow hwin
    exact ⟨hwf, henc ▸ take_window_append_drop (opcodeLength_bounds op) hlen⟩

/-- Settles O16: the empty cells of the primary table are the 51 non-members. -/
theorem primaryTableHasTheSpecsMembers : Obligations.PrimaryTableHasTheSpecsMembers := by
  unfold Obligations.PrimaryTableHasTheSpecsMembers
  exact decodeWindow_eq_none_iff

/-- Settles O18: ten closed strings, each decoded. -/
theorem writtenOutWordsDecode : Obligations.WrittenOutWordsDecode := by
  unfold Obligations.WrittenOutWordsDecode
  exact ⟨rfl, rfl, rfl, rfl, rfl, rfl, rfl, rfl, rfl, rfl⟩

end Sys2Proof.Proofs
end

section
/-! PROOFS of O2 to O8: one step of the engine (10_state.md R33, R34) and PREFIX CB (45_prefixed_bitops.md R182). A step is
one of three things (`step_cases`): nothing in Halted, the decoded instruction in Running, the decode failure for a byte
outside the primary table. -/

namespace Sys2Proof.Machine

/-! ## What a step can do -/

/-- The instruction at PC, `none` for a byte outside the primary table (R75). -/
def State.fetchInstr (s : State) : Option Instr :=
  decodeWindow (s.readMem s.pc) (s.readMem (s.pc + 1)) (s.readMem (s.pc + 2))

theorem step_of_halted {s : State} (hrun : s.run = .halted) : step s = .next s := by
  rw [step, hrun]

/-- The third byte of the window is reached by two moves of PC. -/
theorem State.fetchInstr_eq_window (s : State) :
    s.fetchInstr = decodeWindow (s.readMem s.pc) (s.readMem (s.pc + 1)) (s.readMem (s.pc + 1 + 1)) := by
  rw [BitVec.add_assoc]; rfl

theorem step_of_fetchInstr_eq_some {s : State} {i : Instr} (hrun : s.run = .running) (hfetch : s.fetchInstr = some i) :
    step s = exec i s := by
  rw [State.fetchInstr_eq_window] at hfetch
  simp only [step, hrun, State.fetchWindow_eq, hfetch]

theorem step_of_fetchInstr_eq_none {s : State} (hrun : s.run = .running) (hfetch : s.fetchInstr = none) :
    step s = .next ((s.advance 1).raiseDecodeFailure .primary (s.readMem s.pc) s.pc) := by
  rw [State.fetchInstr_eq_window] at hfetch
  simp only [step, hrun, State.fetchWindow_eq, hfetch]

/-- Everything a step can do. -/
theorem step_cases (s : State) :
    (s.run = .halted ∧ step s = .next s) ∨
      (s.run = .running ∧ s.fetchInstr = none ∧
        step s = .next ((s.advance 1).raiseDecodeFailure .primary (s.readMem s.pc) s.pc)) ∨
      (s.run = .running ∧ ∃ i, s.fetchInstr = some i ∧ step s = .next (runForm (form i) s)) := by
  cases hrun : s.run with
  | halted => exact .inl ⟨rfl, step_of_halted hrun⟩
  | running =>
    cases hfetch : s.fetchInstr with
    | none => exact .inr (.inl ⟨rfl, rfl, step_of_fetchInstr_eq_none hrun hfetch⟩)
    | some i => exact .inr (.inr ⟨rfl, i, rfl, (step_of_fetchInstr_eq_some hrun hfetch).trans (exec_eq_form i s)⟩)

/-- R61: bytes that stand from PC on are the instruction that is fetched; the bytes after them do not matter. -/
theorem State.fetchInstr_of_encode {s : State} {i : Instr} (hwf : i.wf = true)
    (hbytes : ∀ k, k < (encode i).length → s.readMem (s.pc + BitVec.ofNat 16 k) = (encode i).getD k 0) :
    s.fetchInstr = some i := by
  let after := (List.range 3).map fun k => s.readMem (s.pc + BitVec.ofNat 16 ((encode i).length + k))
  have hread : ∀ k < 3, s.readMem (s.pc + BitVec.ofNat 16 k) = (encode i ++ after).getD k 0 := by
    intro k hk
    by_cases hin : k < (encode i).length
    · rw [hbytes k hin, List.getD_append _ _ _ _ hin]
    · have hle := Nat.le_of_not_lt hin
      have hlt : k - (encode i).length < 3 := by omega
      rw [List.getD_append_right _ _ _ _ hle]
      simp [after, List.getD, hlt, Nat.add_sub_cancel' hle]
  have hwin := decodeWindow_encode_append hwf after
  rw [← hread 0 (by decide), ← hread 1 (by decide), ← hread 2 (by decide)] at hwin
  simpa [State.fetchInstr] using hwin

/-- The other direction: the bytes at PC are those of the instruction that is fetched. -/
theorem State.readMem_of_fetchInstr (s : State) {i : Instr} (h : s.fetchInstr = some i) :
    ∀ k < (encode i).length, s.readMem (s.pc + BitVec.ofNat 16 k) = (encode i).getD k 0 := by
  intro k hk
  obtain ⟨-, henc⟩ := encode_of_decodeWindow h
  rw [henc, List.length_take, Nat.lt_min] at hk
  obtain ⟨hlen, hk3⟩ : k < _ ∧ k < 3 := hk
  rw [henc, List.getD_eq_getElem?_getD, List.getElem?_take_of_lt hlen]
  obtain rfl | rfl | rfl : k = 0 ∨ k = 1 ∨ k = 2 := by omega
  · simp
  · simp
  · simp

/-! ## The decode failure -/

/-- R220: past `k` fetched bytes a decode failure changes PC, the run state and the report, and nothing else. -/
theorem raiseDecodeFailure_spec (s : State) (k : Nat) (table : OpTable) (byte : Byte) (addr : Word) :
    let t := (s.advance k).raiseDecodeFailure table byte addr
    t.run = .halted ∧ t.report = .decodeFailure table byte addr ∧ t.pc = s.pc + BitVec.ofNat 16 k ∧
      SameRegsExcept [] s t ∧ t.sp = s.sp ∧ SameMemory s t ∧ t.pixels = s.pixels := by
  refine ⟨?_, ?_, ?_, fun q _ => ?_, ?_, fun x => ?_, ?_⟩ <;> simp

/-! ## PREFIX CB -/

theorem isPrefixedMember_iff (sub : Byte) :
    isPrefixedMember sub = true ↔ (0x30 ≤ sub ∧ sub ≤ 0x37) ∨ (0x80 ≤ sub ∧ sub ≤ 0xBF) := by
  simp [isPrefixedMember]

/-- R182, R74: the row that the table gives a sub-opcode is the rule that its fields select. -/
theorem form_decodePrefixed (sub : Byte) :
    form (decodePrefixed sub) =
      if fieldX sub = 0 ∧ fieldY sub = 6 then .swapOperand (reg8 (fieldZ sub))
      else if fieldX sub = 2 then .resOperand (fieldY sub) (reg8 (fieldZ sub))
      else .prefixedRule sub := by
  revert sub; decide

theorem runForm_decodePrefixed (sub : Byte) (s : State) : runForm (form (decodePrefixed sub)) s = prefixedRule sub s := by
  rw [form_decodePrefixed, prefixedRule]
  split_ifs with hswap hres
  · rfl
  · rfl
  · rw [runForm, prefixedRule, if_neg hswap, if_neg hres]

/-- R67, R220: a sub-opcode that is not a member raises the decode failure with its own address. -/
theorem prefixedRule_of_not_member {sub : Byte} (h : isPrefixedMember sub = false) (s : State) :
    prefixedRule sub s = (s.advance 2).raiseDecodeFailure .prefixed sub (s.pc + 1) := by
  have hfields : ∀ sub, isPrefixedMember sub = false → ¬(fieldX sub = 0 ∧ fieldY sub = 6) ∧ fieldX sub ≠ 2 := by decide
  obtain ⟨hswap, hres⟩ := hfields sub h
  rw [prefixedRule, if_neg hswap, if_neg hres]

/-- A member's two bytes are a constructor of its own (log 2). -/
theorem decodePrefixed_ne_prefixCb {sub : Byte} (h : isPrefixedMember sub = true) : decodePrefixed sub ≠ .prefixCb sub := by
  intro heq
  have hwf : (Instr.prefixCb sub).wf = true := heq ▸ congrArg Prod.snd (decodePrefixed_encode_wf sub)
  simp [Instr.wf, h] at hwf

end Sys2Proof.Machine

namespace Sys2Proof.Proofs

open Sys2Proof.Machine

/-- Settles O2: what decodes at PC is what the step fetches. -/
theorem stepRunsTheDecodedInstruction : Obligations.StepRunsTheDecodedInstruction := by
  unfold Obligations.StepRunsTheDecodedInstruction
  intro s i hrun hdec
  exact step_of_fetchInstr_eq_some hrun hdec

/-- Settles O3: the bytes from PC on are the window of the instruction that they encode. -/
theorem stepRunsTheEncodedBytesAtPc : Obligations.StepRunsTheEncodedBytesAtPc := by
  unfold Obligations.StepRunsTheEncodedBytesAtPc
  intro s i hrun hwf hbytes
  exact step_of_fetchInstr_eq_some hrun (State.fetchInstr_of_encode hwf hbytes)

/-- Settles O4: the 51 non-members are the bytes at which nothing is fetched. -/
theorem stepOfPrimaryNonMemberHalts : Obligations.StepOfPrimaryNonMemberHalts := by
  unfold Obligations.StepOfPrimaryNonMemberHalts
  rintro s op hrun rfl hmem
  have hfetch : s.fetchInstr = none := (decodeWindow_eq_none_iff _ _ _).mpr hmem
  exact ⟨_, step_of_fetchInstr_eq_none hrun hfetch, raiseDecodeFailure_spec s 1 .primary _ _⟩

/-- Settles O5: outside the two ranges 0xCB raises the decode failure past its two bytes. -/
theorem prefixOfNonMemberHalts : Obligations.PrefixOfNonMemberHalts := by
  unfold Obligations.PrefixOfNonMemberHalts
  intro s sub hswap hres
  have hsub : isPrefixedMember sub = false := by
    rw [← Bool.not_eq_true, isPrefixedMember_iff, not_or]
    exact ⟨hswap, hres⟩
  have hexec : exec (.prefixCb sub) s = .next (prefixedRule sub s) := exec_of_form rfl s
  rw [prefixedRule_of_not_member hsub] at hexec
  exact ⟨_, hexec, raiseDecodeFailure_spec s 2 .prefixed _ _⟩

/-- Settles O6: the member's own form is the rule that 0xCB selects (`runForm_decodePrefixed`). -/
theorem prefixOfMemberRunsItsRule : Obligations.PrefixOfMemberRunsItsRule := by
  unfold Obligations.PrefixOfMemberRunsItsRule
  intro s sub b2 hsub
  have hmember : isPrefixedMember sub = true := (isPrefixedMember_iff sub).mpr hsub
  have hexec := exec_eq_form (decodePrefixed sub) s
  rw [runForm_decodePrefixed] at hexec
  exact ⟨_, _, decodeWindow_prefix sub b2, decodePrefixed_ne_prefixCb hmember, exec_of_form rfl s, hexec⟩

/-- Settles O7: in Halted the step answers its own state. -/
theorem haltedStepChangesNothing : Obligations.HaltedStepChangesNothing := by
  unfold Obligations.HaltedStepChangesNothing
  intro s hrun
  exact step_of_halted hrun

/-- Settles O8: each of the three things a step can do answers a next state. -/
theorem stepAlwaysAnswersANextState : Obligations.StepAlwaysAnswersANextState := by
  unfold Obligations.StepAlwaysAnswersANextState
  intro s
  obtain ⟨-, hstep⟩ | ⟨-, -, hstep⟩ | ⟨-, i, -, hstep⟩ := step_cases s
  · exact ⟨_, hstep⟩
  · exact ⟨_, hstep⟩
  · exact ⟨_, hstep⟩

end Sys2Proof.Proofs
end

section
/-! PROOFS of O9, O10, O12, O13 and O22: what every instruction keeps. An instruction that stays in Running is a chain of writes,
none of which reaches the run state, the report or the pixel buffer (`Writes`); only HALT and 0xCB before a non-member enter
Halted (`runForm_cases`). Each claim about all instructions is then an induction over a chain of writes. -/

namespace Sys2Proof.Machine

/-! ## Chains of writes -/

/-- The states that the engine's writes lead to from `s`. A write to F is a flag write or one that clears F[3:0], and happens
only where `flags` allows it. -/
inductive Writes (flags : Bool) (s : State) : State → Prop
  | refl : Writes flags s s
  | advance {t : State} (h : Writes flags s t) (n : Nat) : Writes flags s (t.advance n)
  | setPc {t : State} (h : Writes flags s t) (w : Word) : Writes flags s (t.setPc w)
  | setReg {t : State} (h : Writes flags s t) {r : Reg8} (hr : r ≠ .f) (v : Byte) : Writes flags s (t.setReg r v)
  | setReg16 {t : State} (h : Writes flags s t) {p : Reg16} (hp : p ≠ .af) (v : Word) : Writes flags s (t.setReg16 p v)
  | writeMem {t : State} (h : Writes flags s t) (x : Word) (v : Byte) : Writes flags s (t.writeMem x v)
  | setFlag {t : State} (h : Writes flags s t) (hf : flags = true) (fl : Flag) (v : Bool) : Writes flags s (t.setFlag fl v)
  | setF {t : State} (h : Writes flags s t) (hf : flags = true) {v : Byte} (hv : v &&& 0x0F = 0) :
      Writes flags s (t.setReg .f v)

namespace Writes

variable {flags : Bool} {s t : State}

/-! The shared operations are chains of writes. -/

theorem push16 (h : Writes flags s t) (v : Word) : Writes flags s (t.push16 v) :=
  ((h.setReg16 (p := .sp) (by decide) (t.sp - 2)).writeMem _ _).writeMem _ _

theorem write8 (h : Writes flags s t) {o : Operand8} (ho : o ≠ .reg .f) (v : Byte) : Writes flags s (t.write8 o v) := by
  cases o with
  | reg r => exact h.setReg (fun hr => ho (hr ▸ rfl)) v
  | atHl => exact h.writeMem _ v

theorem setZNH (hw : Writes flags s t) (hf : flags = true) (z n h : Bool) : Writes flags s (t.setZNH z n h) :=
  ((hw.setFlag hf .z z).setFlag hf .n n).setFlag hf .h h

theorem setNHC (hw : Writes flags s t) (hf : flags = true) (n h c : Bool) : Writes flags s (t.setNHC n h c) :=
  ((hw.setFlag hf .n n).setFlag hf .h h).setFlag hf .c c

theorem setZNHC (hw : Writes flags s t) (hf : flags = true) (z n h c : Bool) : Writes flags s (t.setZNHC z n h c) :=
  (hw.setZNH hf z n h).setFlag hf .c c

/-! What a chain of writes keeps. -/

theorem sameEngine (h : Writes flags s t) : SameEngine s t := by
  induction h with
  | refl => exact ⟨rfl, rfl, rfl⟩
  | advance _ _ ih | setPc _ _ ih | writeMem _ _ _ ih | setFlag _ _ _ _ ih => exact ih
  | setReg _ _ _ ih | setReg16 _ _ _ ih | setF _ _ _ ih => simpa [SameEngine] using ih

theorem mem_wf (h : Writes flags s t) (hs : s.mem.wf = true) : t.mem.wf = true := by
  induction h with
  | refl => exact hs
  | advance _ _ ih | setPc _ _ ih | setFlag _ _ _ _ ih => exact ih
  | setReg _ _ _ ih | setReg16 _ _ _ ih | setF _ _ _ ih => simpa using ih
  | writeMem _ x v ih => exact Memory.write_wf ih x v

theorem f_eq (h : Writes false s t) : t.f = s.f := by
  induction h with
  | refl => rfl
  | advance _ _ ih | setPc _ _ ih | writeMem _ _ _ ih => exact ih
  | setReg _ hr v ih => exact (State.setReg_f _ _ v hr).trans ih
  | setReg16 _ hp v ih => exact (State.setReg16_f _ _ v hp).trans ih
  | setFlag _ hf => cases hf
  | setF _ hf => cases hf

/-- R26: "flag writes touch only bits 7 to 4", and every other write to F clears F[3:0]. -/
theorem lowF_eq_zero (h : Writes flags s t) (hs : s.lowF = 0) : t.lowF = 0 := by
  induction h with
  | refl => exact hs
  | advance _ _ ih | setPc _ _ ih | writeMem _ _ _ ih => exact ih
  | setReg _ hr v ih => exact (State.setReg_lowF _ hr v).trans ih
  | setReg16 _ hp v ih => exact (congrArg (· &&& 0x0F) (State.setReg16_f _ _ v hp)).trans ih
  | setFlag _ _ fl v ih => exact (State.setFlag_lowF _ fl v).trans ih
  | setF _ _ hv => exact hv

theorem inv (h : Writes flags s t) (hs : s.Inv) : t.Inv := by
  obtain ⟨hmem, hpixels, hlow, hreport⟩ := hs
  obtain ⟨hrun', hreport', hpixels'⟩ := h.sameEngine
  exact ⟨h.mem_wf hmem, hpixels' ▸ hpixels, h.lowF_eq_zero hlow, by rw [hrun', hreport']; exact hreport⟩

end Writes

/-! ## The forms -/

/-- The two forms that may enter Halted. -/
def Form.mayHalt : Form → Bool
  | .halt | .prefixedRule _ => true
  | _ => false

/-- No operand that is written is F, or AF but by POP. -/
def Form.namesNoF : Form → Bool
  | .ldRegImm r _ | .ldRegReg r _ | .ldRegAtHl r | .incReg r | .decReg r => decide (r ≠ .f)
  | .ldReg16Imm rr _ | .incReg16 rr | .decReg16 rr => decide (rr ≠ .af)
  | .swapOperand o | .resOperand _ o => decide (o ≠ .reg .f)
  | _ => true

/-- The forms that write F (R27). -/
def Form.writesF : Form → Bool
  | .aluAdd _ | .aluSub _ | .aluAnd _ | .aluOr _ | .aluXor _ | .aluCp _ | .incReg _ | .decReg _ | .addHlReg16 _
  | .swapOperand _ => true
  | .popReg16 rr => decide (rr = .af)
  | _ => false

/-- R63, R64: no operand code names F. -/
theorem form_namesNoF (i : Instr) : (form i).namesNoF = true := by cases i <;> rfl

/-- R171 as writes, for every pair but AF: the pop moves SP, and the word it answers goes to the pair. -/
theorem popReg16_eq {p : Reg16} (hp : p ≠ .af) (s : State) :
    popReg16 p s = ((s.advance 1).setReg16 .sp (s.sp + 2)).setReg16 p (word (s.readMem (s.sp + 1)) (s.readMem s.sp)) := by
  cases p with
  | af => exact absurd rfl hp
  | bc | de | hl | sp => rfl

/-- The spec's D7: what POP AF puts in F has no bit in F[3:0]. -/
theorem and_highNibble_and_lowNibble (v : Byte) : v &&& 0xF0 &&& 0x0F = 0 := by
  rw [BitVec.and_assoc]; exact BitVec.and_zero

/-- Every form that stays in Running is a chain of writes. -/
theorem runForm_writes {fm : Form} (hhalt : fm.mayHalt = false) (hnames : fm.namesNoF = true) (s : State) :
    Writes fm.writesF s (runForm fm s) := by
  cases fm with
  | halt | prefixedRule => cases hhalt
  | nop | stop => exact .advance .refl 1
  | di | ei | ldAtHlReg | storeAAt | storeAHigh | storeAAbs => exact .writeMem (.advance .refl _) _ _
  | ldRegImm | ldRegReg | ldRegAtHl => exact .setReg (.advance .refl _) (of_decide_eq_true hnames) _
  | loadAHigh | loadAAbs => exact .setReg (.advance .refl _) (r := .a) (by decide) _
  | ldReg16Imm | incReg16 | decReg16 => exact .setReg16 (.advance .refl _) (of_decide_eq_true hnames) _
  | ldSpFromHl => exact .setReg16 (.advance .refl 1) (p := .sp) (by decide) _
  | storeAAtHlInc | storeAAtHlDec => exact .setReg16 (.writeMem (.advance .refl 1) _ _) (p := .hl) (by decide) _
  | aluAdd | aluSub | aluAnd | aluOr | aluXor =>
    exact .setZNHC (.setReg (.advance .refl _) (r := .a) (by decide) _) rfl _ _ _ _
  | aluCp => exact .setZNHC (.advance .refl _) rfl _ _ _ _
  | incReg | decReg => exact .setZNH (.setReg (.advance .refl 1) (of_decide_eq_true hnames) _) rfl _ _ _
  | addHlReg16 => exact .setNHC (.setReg16 (.advance .refl 1) (p := .hl) (by decide) _) rfl _ _ _
  | jump | jumpRel => exact .setPc (.advance .refl _) _
  | callAbs | restart => exact .setPc (.push16 (.advance .refl _) _) _
  | retOp => exact .setPc (.setReg16 (.advance .refl 1) (p := .sp) (by decide) _) _
  | jumpIf k nn =>
    rw [runForm, jumpIf]
    split
    · exact .setPc (.advance .refl 3) nn
    · exact .advance .refl 3
  | jumpRelIf k e =>
    rw [runForm, jumpRelIf]
    split
    · exact .setPc (.advance .refl 2) _
    · exact .advance .refl 2
  | callAbsIf k nn =>
    rw [runForm, callAbsIf]
    split
    · exact .setPc (.push16 (.advance .refl 3) _) nn
    · exact .advance .refl 3
  | retIf k =>
    rw [runForm, retIf]
    split
    · exact .setPc (.setReg16 (.advance .refl 1) (p := .sp) (by decide) _) _
    · exact .advance .refl 1
  | pushReg16 => exact .push16 (.advance .refl 1) _
  | popReg16 rr =>
    by_cases hp : rr = .af
    · subst hp
      exact .setF (.setReg (.setReg16 (.advance .refl 1) (p := .sp) (by decide) _) (r := .a) (by decide) _) rfl
        (and_highNibble_and_lowNibble _)
    · rw [runForm, popReg16_eq hp]
      exact .setReg16 (.setReg16 (.advance .refl 1) (p := .sp) (by decide) _) hp _
  | swapOperand => exact .setZNHC (.write8 (.advance .refl 2) (of_decide_eq_true hnames) _) rfl _ _ _ _
  | resOperand => exact .write8 (.advance .refl 2) (of_decide_eq_true hnames) _

/-- Everything a well-formed instruction can do to the engine: HALT and 0xCB before a non-member enter Halted, and every other
instruction is a chain of writes. -/
theorem runForm_cases {i : Instr} (hwf : i.wf = true) (s : State) :
    (i = .halt ∧ runForm (form i) s = (s.advance 1).enterHalted (.haltInstruction s.pc)) ∨
      (∃ sub, i = .prefixCb sub ∧ isPrefixedMember sub = false ∧
        runForm (form i) s = (s.advance 2).raiseDecodeFailure .prefixed sub (s.pc + 1)) ∨
      Writes (form i).writesF s (runForm (form i) s) := by
  cases i with
  | halt => exact .inl ⟨rfl, rfl⟩
  | prefixCb sub =>
    have hsub : isPrefixedMember sub = false := by simpa [Instr.wf] using hwf
    exact .inr (.inl ⟨sub, rfl, hsub, prefixedRule_of_not_member hsub s⟩)
  | _ => exact .inr (.inr (runForm_writes rfl (form_namesNoF _) s))

/-! ## The invariant -/

/-- R30: entering Halted with a report keeps the invariant. -/
theorem advance_enterHalted_inv {s : State} (h : s.Inv) {r : HaltReport} (hr : r ≠ .none) (k : Nat) :
    ((s.advance k).enterHalted r).Inv := by
  obtain ⟨hmem, hpixels, hlow, -⟩ := h
  exact ⟨hmem, hpixels, hlow, by simp [hr]⟩

theorem step_inv {s t : State} (h : s.Inv) (hstep : step s = .next t) : t.Inv := by
  obtain ⟨-, heq⟩ | ⟨-, -, heq⟩ | ⟨-, i, hfetch, heq⟩ := step_cases s
  · cases heq.symm.trans hstep
    exact h
  · cases heq.symm.trans hstep
    exact advance_enterHalted_inv h (by simp) 1
  · cases heq.symm.trans hstep
    obtain ⟨hwf, -⟩ := encode_of_decodeWindow hfetch
    obtain ⟨-, hrun⟩ | ⟨sub, -, -, hrun⟩ | hwrites := runForm_cases hwf s
    · exact hrun ▸ advance_enterHalted_inv h (by simp) 1
    · exact hrun ▸ advance_enterHalted_inv h (by simp) 2
    · exact hwrites.inv h

theorem reset_inv : State.reset.Inv := ⟨reset_mem_wf, reset_pixels_wf, rfl, by decide⟩

theorem resetWith_inv (cfg : Config) (image : List Byte) : (State.resetWith cfg image).Inv := by
  obtain ⟨hmem, hpixels, hlow, hreport⟩ := reset_inv
  exact ⟨loadImage_wf hmem cfg image, hpixels, hlow, hreport⟩

theorem render_inv {s : State} (h : s.Inv) (cfg : Config) : (render cfg s).Inv := by
  obtain ⟨hmem, -, hlow, hreport⟩ := h
  exact ⟨hmem, render_pixels_wf cfg s, hlow, hreport⟩

theorem advanceScanline_inv {s : State} (h : s.Inv) : (advanceScanline s).Inv :=
  Writes.inv (flags := false) (.writeMem .refl _ _) h

/-- Every call of R234 keeps the invariant. -/
theorem callHost_inv {s t : State} (h : s.Inv) {cfg : Config} {c : HostCall} (hcall : callHost cfg c s = .next t) :
    t.Inv := by
  cases c with
  | reset image => cases hcall; exact resetWith_inv cfg image
  | step => exact step_inv h hcall
  | render => cases hcall; exact render_inv h cfg
  | advanceScanline => cases hcall; exact advanceScanline_inv h

/-! ## F -/

/-- The bytes of the flag writers of R27. -/
def isFlagWriter (op sub : Byte) : Bool :=
  decide (op < 0x40 ∧ (op &&& 0x07 = 4 ∨ op &&& 0x07 = 5 ∨ op &&& 0x0F = 9)) || decide (0x80 ≤ op ∧ op < 0xC0) ||
    decide (0xC0 ≤ op ∧ op &&& 0x07 = 6) || decide (op = 0xF1) || decide (op = 0xCB ∧ 0x30 ≤ sub ∧ sub ≤ 0x37)

/-- R27: the forms that write F are those of the table's flag writers. -/
theorem form_writesF {i : Instr} (hwf : i.wf = true) :
    (form i).writesF = isFlagWriter ((encode i).getD 0 0) ((encode i).getD 1 0) := by
  cases i with
  | prefixCb sub =>
    have hnot : ∀ sub, (Instr.prefixCb sub).wf = true → isFlagWriter 0xCB sub = false := by decide
    exact (hnot sub hwf).symm
  | _ =>
    simp only [encode, List.getD_cons_zero, List.getD_cons_succ]
    rfl

/-- A well-formed instruction whose form is no flag writer leaves F. -/
theorem runForm_f_eq {i : Instr} (hwf : i.wf = true) (hf : (form i).writesF = false) (s : State) :
    (runForm (form i) s).f = s.f := by
  obtain ⟨-, hrun⟩ | ⟨sub, -, -, hrun⟩ | hwrites := runForm_cases hwf s
  · simp [hrun]
  · simp [hrun]
  · exact (hf ▸ hwrites).f_eq

/-! ## The pixel buffer -/

/-- The state with another pixel buffer (R36). -/
def State.setPixels (s : State) (p : PixelBuffer) : State := { s with pixels := p }

theorem State.cond_setPixels (s : State) (k : Cond) (p : PixelBuffer) : (s.setPixels p).cond k = s.cond k := by
  cases k <;> rfl

theorem swapOperand_setPixels (o : Operand8) (s : State) (p : PixelBuffer) :
    swapOperand o (s.setPixels p) = (swapOperand o s).setPixels p := by
  cases o with
  | reg r => cases r <;> rfl
  | atHl => rfl

theorem resOperand_setPixels (b : BitVec 3) (o : Operand8) (s : State) (p : PixelBuffer) :
    resOperand b o (s.setPixels p) = (resOperand b o s).setPixels p := by
  cases o with
  | reg r => cases r <;> rfl
  | atHl => rfl

/-- Every form reads and writes past the pixel buffer. -/
theorem runForm_setPixels (fm : Form) (s : State) (p : PixelBuffer) :
    runForm fm (s.setPixels p) = (runForm fm s).setPixels p := by
  cases fm with
  | ldRegImm r | ldRegReg r | ldRegAtHl r | incReg r | decReg r => cases r <;> rfl
  | ldReg16Imm q | incReg16 q | decReg16 q | popReg16 q => cases q <;> rfl
  | jumpIf k | jumpRelIf k | callAbsIf k | retIf k =>
    simp only [runForm, jumpIf, jumpRelIf, callAbsIf, retIf, State.cond_setPixels, apply_ite (State.setPixels · p)]
    rfl
  | swapOperand o => exact swapOperand_setPixels o s p
  | resOperand b o => exact resOperand_setPixels b o s p
  | prefixedRule sub =>
    simp only [runForm, prefixedRule, swapOperand_setPixels, resOperand_setPixels]
    split_ifs <;> rfl
  | _ => rfl

theorem step_setPixels {s t : State} (h : step s = .next t) (p : PixelBuffer) :
    step (s.setPixels p) = .next (t.setPixels p) := by
  obtain ⟨hrun, heq⟩ | ⟨hrun, hfetch, heq⟩ | ⟨hrun, i, hfetch, heq⟩ := step_cases s
  · cases heq.symm.trans h
    exact step_of_halted hrun
  · cases heq.symm.trans h
    exact step_of_fetchInstr_eq_none hrun hfetch
  · cases heq.symm.trans h
    have hset : step (s.setPixels p) = exec i (s.setPixels p) := step_of_fetchInstr_eq_some hrun hfetch
    rw [hset, exec_eq_form, runForm_setPixels]

end Sys2Proof.Machine

namespace Sys2Proof.Proofs

open Sys2Proof.Machine

/-- Settles O9: of the things a step can do, only the decode failures and HALT enter Halted, and each is known by the bytes at
PC. -/
theorem onlyHaltOrDecodeFailureLeavesRunning : Obligations.OnlyHaltOrDecodeFailureLeavesRunning := by
  unfold Obligations.OnlyHaltOrDecodeFailureLeavesRunning
  intro s t hrun hstep hhalted
  obtain ⟨hrun', -⟩ | ⟨-, hfetch, heq⟩ | ⟨-, i, hfetch, heq⟩ := step_cases s
  · cases hrun.symm.trans hrun'
  · cases heq.symm.trans hstep
    exact .inr (.inl ⟨(decodeWindow_eq_none_iff _ _ _).mp hfetch, rfl⟩)
  · cases heq.symm.trans hstep
    obtain ⟨hwf, -⟩ := encode_of_decodeWindow hfetch
    have hbytes := s.readMem_of_fetchInstr hfetch
    obtain ⟨rfl, hform⟩ | ⟨sub, rfl, hsub, hform⟩ | hwrites := runForm_cases hwf s
    · have hop := hbytes 0 (by decide)
      rw [hform]
      exact .inl ⟨by simpa [encode] using hop, rfl⟩
    · have hop := hbytes 0 (by simp [encode])
      have hnext : s.readMem (s.pc + 1) = sub := hbytes 1 (by simp [encode])
      rw [hform, hnext]
      exact .inr (.inr ⟨by simpa [encode] using hop, hsub, rfl⟩)
    · obtain ⟨hsame, -⟩ := hwrites.sameEngine
      cases hrun.symm.trans (hsame.symm.trans hhalted)

/-- Settles O10: a step answers a next state, and putting another buffer into the state commutes with it
(`step_setPixels`). -/
theorem pixelBufferIsNotReadByTheEngine : Obligations.PixelBufferIsNotReadByTheEngine := by
  unfold Obligations.PixelBufferIsNotReadByTheEngine
  intro s p
  obtain ⟨t, ht⟩ := stepAlwaysAnswersANextState s
  exact ⟨t, ht, step_setPixels ht p⟩

/-- Settles O11: each conjunct is a reset value of R38. -/
theorem resetSatisfiesTheInvariant : Obligations.ResetSatisfiesTheInvariant := by
  unfold Obligations.ResetSatisfiesTheInvariant
  exact reset_inv

/-- Settles O12: a chain of writes keeps the invariant, and so does entering Halted with a report (`step_inv`). -/
theorem stepKeepsTheInvariant : Obligations.StepKeepsTheInvariant := by
  unfold Obligations.StepKeepsTheInvariant
  intro s t hinv hstep
  exact step_inv hinv hstep

/-- Settles O13, by induction on the host's calls: a reset gives the invariant and each call keeps it. -/
theorem reachableStatesSatisfyTheInvariant : Obligations.ReachableStatesSatisfyTheInvariant := by
  unfold Obligations.ReachableStatesSatisfyTheInvariant
  intro cfg s hreach
  have hinv : s.Inv := by
    induction hreach with
    | reset image => exact resetWith_inv cfg image
    | call c s t _ hcall ih => exact callHost_inv ih hcall
  have ⟨_, _, hlow, _⟩ := hinv
  exact ⟨hinv, hlow⟩

/-- Settles O22: the forms outside R27's table leave F (`form_writesF`, `runForm_f_eq`). -/
theorem otherInstructionsLeaveF : Obligations.OtherInstructionsLeaveF := by
  unfold Obligations.OtherInstructionsLeaveF
  intro i s t hwf hexec hbytes
  have hf : (form i).writesF = false := by
    rw [form_writesF hwf]
    simpa only [isFlagWriter, Bool.or_eq_false_iff, decide_eq_false_iff_not, and_assoc] using hbytes
  cases (exec_eq_form i s).symm.trans hexec
  exact runForm_f_eq hwf hf s

end Sys2Proof.Proofs
end

section
/-! PROOFS of O44 and O60: JR (43_control_transfer.md R152, R153) and the offset that the assembler gives it
(30_encoding.md R72). -/

namespace Sys2Proof.Machine

/-- R152: the target computed on words is the signed sum over the integers, wrapped. -/
theorem jumpRel_target (a : Word) (e : Byte) : a + 2 + sext16 e = BitVec.ofInt 16 (a.toNat + 2 + e.toInt) := by
  rw [sext16, BitVec.signExtend, BitVec.ofInt_add, BitVec.ofInt_add]
  simp

/-- JR cc,e (R153). -/
theorem exec_jrIf (e : Byte) (s : State) :
    ∀ row ∈ Rows.jrIf e, exec row.1 s = .next (if s.flag row.2.1 = row.2.2 then jumpRel e s else s.advance 2) ∧
      (encode row.1).length = 2 :=
  exec_conditional_of_map_eq (fm := (.jumpRelIf · e)) rfl (fun _ _ => rfl) s

/-- R152 as a write of PC. -/
theorem jumpRel_eq (e : Byte) (s : State) : jumpRel e s = s.setPc (BitVec.ofInt 16 (s.pc.toNat + 2 + e.toInt)) := by
  rw [← jumpRel_target]; rfl

/-- The offset bytes are the integers from -128 to 127. -/
theorem toInt_bounds (e : Byte) : -128 ≤ e.toInt ∧ e.toInt ≤ 127 := by
  have hlow := e.le_toInt
  have hhigh := e.toInt_lt
  omega

/-- R72: the assembler gives an offset exactly when a JR with it reaches the label. -/
theorem jrOffset_eq_some_iff (label a : Word) (e : Byte) : jrOffset label a = some e ↔ a + 2 + sext16 e = label := by
  have hsext : (sext16 e).toInt = e.toInt := BitVec.toInt_signExtend_of_le (by decide)
  have hdiff : a + 2 + sext16 e = label ↔ e.toInt = (label - (a + 2)).toInt := by
    rw [← hsext, BitVec.toInt_inj, eq_sub_iff_add_eq']
  rw [hdiff, jrOffset]
  generalize (label - (a + 2)).toInt = x
  have he := toInt_bounds e
  split
  next hx =>
    rw [Option.some_inj]
    constructor
    · rintro rfl
      exact BitVec.toInt_ofInt_eq_self (by decide) hx.1 (by omega)
    · rintro rfl
      exact BitVec.ofInt_toInt
  next hx =>
    have hne : e.toInt ≠ x := by omega
    simp [hne]

/-- R72: the assembler refuses a label exactly when the signed difference is out of the offset's range. -/
theorem jrOffset_eq_none_iff (label a : Word) :
    jrOffset label a = none ↔ (label - (a + 2)).toInt < -128 ∨ 127 < (label - (a + 2)).toInt := by
  simp only [jrOffset, ite_eq_right_iff, reduceCtorEq, imp_false]
  omega

end Sys2Proof.Machine

namespace Sys2Proof.Proofs

open Sys2Proof.Machine

/-- Settles O44: JR e is a write of PC; JR cc,e is the same write or the move past its bytes. -/
theorem relativeJumpsGoToTheirTarget : Obligations.RelativeJumpsGoToTheirTarget := by
  unfold Obligations.RelativeJumpsGoToTheirTarget
  intro e s
  have hjr : exec (.jr e) s = .next (jumpRel e s) := exec_of_form rfl s
  rw [jumpRel_eq] at hjr
  refine ⟨exec_setPc_spec hjr, fun row hrow => ?_⟩
  obtain ⟨hexec, hlen⟩ := exec_jrIf e s row hrow
  by_cases hc : s.flag row.2.1 = row.2.2
  · rw [if_pos hc] at hexec ⊢
    rw [jumpRel_eq] at hexec
    exact exec_setPc_spec hexec
  · rw [if_neg hc] at hexec ⊢
    exact exec_advance_spec hexec hlen

/-- Settles O60: the offset is given exactly when it reaches the label (`jrOffset_eq_some_iff`), and the refusal is the
assembler's own range check. -/
theorem assembledJrReachesItsLabel : Obligations.AssembledJrReachesItsLabel := by
  unfold Obligations.AssembledJrReachesItsLabel
  intro s label
  constructor
  · intro e
    have hjr : exec (.jr e) s = .next (jumpRel e s) := exec_of_form rfl s
    rw [jrOffset_eq_some_iff, hjr]
    constructor
    · intro h
      exact ⟨_, rfl, h⟩
    · rintro ⟨t, ht, hpc⟩
      cases ht
      exact hpc
  · exact jrOffset_eq_none_iff label s.pc

end Sys2Proof.Proofs
end

section
/-! PROOFS of O49 and O50: POP rr and the law of push and pop (44_stack.md R171 to R173 and section 3). -/

namespace Sys2Proof.Machine

/-- POP of a pair other than AF writes the pair, SP and PC. -/
theorem exec_popPair_spec {s : State} {i : Instr} {p : Reg16} (haf : p ≠ .af) (hsp : p ≠ .sp)
    (hexec : exec i s = .next (popReg16 p s)) (hlen : (encode i).length = 1) :
    ∃ t, exec i s = .next t ∧ t.reg16 p = word (s.readMem (s.sp + 1)) (s.readMem s.sp) ∧ t.sp = s.sp + 2 ∧
      t.pc = s.pcAfter i ∧ SameRegsExcept (halves p) s t ∧ SameMemory s t ∧ SameEngine s t := by
  rw [popReg16_eq haf] at hexec
  refine ⟨_, hexec, State.setReg16_reg16 _ p _, ?_, ?_, fun q hq => ?_, fun x => ?_, ?_⟩
  · simp [hsp]
  · simp [State.pcAfter_of_length hlen]
  · simp [State.setReg16_reg_of_notMem_halves _ hq]
  · simp
  · simp [SameEngine]

/-- R171 as writes, for AF: F gets the low byte with F[3:0] cleared (the spec's D7). -/
theorem popReg16_af_eq (s : State) :
    popReg16 .af s = (((s.advance 1).setReg16 .sp (s.sp + 2)).setReg .a (s.readMem (s.sp + 1))).setReg .f
      (s.readMem s.sp &&& 0xF0) := by
  rw [popReg16, State.pop16_spec]
  simp only [hiByte_word, loByte_word]
  rfl

/-- POP AF writes A, F, SP and PC. -/
theorem exec_popAf_spec (s : State) :
    ∃ t, exec .popAf s = .next t ∧ t.a = s.readMem (s.sp + 1) ∧ t.f = s.readMem s.sp &&& 0xF0 ∧ t.sp = s.sp + 2 ∧
      t.pc = s.pcAfter .popAf ∧ SameRegsExcept [.a, .f] s t ∧ SameMemory s t ∧ SameEngine s t := by
  have hexec : exec .popAf s = .next (popReg16 .af s) := exec_of_form rfl s
  rw [popReg16_af_eq] at hexec
  refine ⟨_, hexec, rfl, rfl, rfl, rfl, fun q hq => ?_, fun x => rfl, rfl, rfl, rfl⟩
  obtain ⟨ha, hf⟩ : q ≠ .a ∧ q ≠ .f := by simpa using hq
  simp [ha, hf]

theorem popPair_rows : ∀ row ∈ Rows.popPair,
    row.2 ≠ .af ∧ row.2 ≠ .sp ∧ form row.1 = .popReg16 row.2 ∧ (encode row.1).length = 1 := by decide

/-- 44_stack.md section 3: a pop after a push answers the word and restores SP. -/
theorem State.pop16_push16 (s : State) (v : Word) : (s.push16 v).pop16 = (v, { s.push16 v with sp := s.sp }) := by
  have hsp : s.sp - 2 + 2 = s.sp := BitVec.sub_add_cancel ..
  rw [State.pop16_spec, State.push16_sp, State.push16_readMem_low, State.push16_readMem_high, word_hiByte_loByte, hsp]

/-- Clearing F[3:0] changes nothing where it is 0 (R26). -/
theorem and_highNibble_of_lowNibble_eq_zero : ∀ f : Byte, f &&& 0x0F = 0 → f &&& 0xF0 = f := by decide

end Sys2Proof.Machine

namespace Sys2Proof.Proofs

open Sys2Proof.Machine

/-- Settles O49: a pop is a write of SP and of the pair, or of A and F. -/
theorem popLoadsThePair : Obligations.PopLoadsThePair := by
  unfold Obligations.PopLoadsThePair
  intro s
  refine ⟨fun row hrow => ?_, exec_popAf_spec s⟩
  obtain ⟨haf, hsp, hform, hlen⟩ := popPair_rows row hrow
  exact exec_popPair_spec haf hsp (exec_of_form hform s) hlen

/-- Settles O50: the pop reads the two slots that the push wrote (`State.pop16_push16`), and clearing F[3:0] is no loss where
it is 0. -/
theorem pushThenPopRestores : Obligations.PushThenPopRestores := by
  unfold Obligations.PushThenPopRestores
  constructor
  · intro s v
    rw [State.pop16_push16]
    exact ⟨rfl, rfl, s.push16_sameMemoryExcept v⟩
  · intro s hf
    obtain ⟨t, ht, hsp, hhi, hlo, -⟩ := pushStoresThePair s (.pushAf, .af) (by decide)
    obtain ⟨u, hu, ha, hf', hsp', -⟩ := exec_popAf_spec t
    refine ⟨t, u, ht, hu, ?_, ?_, ?_⟩
    · rw [ha, hsp, hhi]; exact hiByte_word s.a s.f
    · rw [hf', hsp, hlo]
      exact (congrArg (· &&& 0xF0) (loByte_word s.a s.f)).trans (and_highNibble_of_lowNibble_eq_zero s.f hf)
    · rw [hsp', hsp]; exact BitVec.sub_add_cancel ..

end Sys2Proof.Proofs
end

section
/-! PROOFS of O51 and O52: SWAP and RES (45_prefixed_bitops.md R180, R181). Both are a write of one operand past two bytes; SWAP
then writes the four flags. -/

namespace Sys2Proof.Machine

/-! ## A write of one operand -/

/-- R16: an operand reads as it was written; a store to (HL) does not move HL. -/
theorem State.read8_write8 (s : State) (o : Operand8) (v : Byte) : (s.write8 o v).read8 o = v := by
  cases o with
  | reg r => simp [State.write8, State.read8]
  | atHl => simp [State.write8, State.read8]

/-- Past `k` bytes a write to an operand changes PC and the operand, and nothing else. -/
theorem advance_write8_spec (s : State) (k : Nat) (o : Operand8) (v : Byte) :
    let t := (s.advance k).write8 o v
    t.read8 o = v ∧ t.pc = s.pc + BitVec.ofNat 16 k ∧ SameRegsExcept o.regs s t ∧ t.sp = s.sp ∧
      SameMemoryExcept (o.addrs s) s t ∧ SameEngine s t := by
  refine ⟨State.read8_write8 _ o v, ?_⟩
  cases o with
  | reg r =>
    refine ⟨?_, fun q hq => ?_, ?_, fun x _ => ?_, ?_⟩
    · simp [State.write8]
    · have hqr : q ≠ r := by simpa [Operand8.regs] using hq
      simp [State.write8, hqr]
    · simp [State.write8]
    · simp [State.write8]
    · simp [State.write8, SameEngine]
  | atHl =>
    refine ⟨rfl, fun q _ => ?_, rfl, fun x hx => ?_, rfl, rfl, rfl⟩
    · simp [State.write8]
    · have hne : x ≠ s.reg16 .hl := by simpa [Operand8.addrs] using hx
      simp [State.write8, hne]

/-- Flag writes reach no operand but F. -/
theorem State.setZNHC_read8 (s : State) {o : Operand8} (ho : o ≠ .reg .f) (z n h c : Bool) :
    (s.setZNHC z n h c).read8 o = s.read8 o := by
  cases o with
  | reg r =>
    obtain ⟨-, -, -, -, -, hreg, -⟩ := s.setZNHC_spec z n h c
    exact hreg r fun hr => ho (hr ▸ rfl)
  | atHl => rfl

/-- Past `k` bytes a write to an operand other than F and then of the four flags changes PC, the operand and F, and nothing
else. -/
theorem advance_write8_setZNHC_spec (s : State) (k : Nat) {o : Operand8} (ho : o ≠ .reg .f) (v : Byte) (z n h c : Bool) :
    let t := ((s.advance k).write8 o v).setZNHC z n h c
    t.read8 o = v ∧ FlagsAre s t z n h c ∧ t.pc = s.pc + BitVec.ofNat 16 k ∧ SameRegsExcept (.f :: o.regs) s t ∧
      t.sp = s.sp ∧ SameMemoryExcept (o.addrs s) s t ∧ SameEngine s t := by
  obtain ⟨hread, hpc, hregs, hsp, hmem, hrun, hreport, hpixels⟩ := advance_write8_spec s k o v
  obtain ⟨-, -, -, -, -, hf, -⟩ := State.write8_frame (s.advance k) o v ho
  obtain ⟨hz, hn, hh, hc, hlow, hreg', hsp', hpc', hmem', hrun', hreport', hpixels'⟩ :=
    ((s.advance k).write8 o v).setZNHC_spec z n h c
  refine ⟨(State.setZNHC_read8 _ ho z n h c).trans hread, ⟨hz, hn, hh, hc, ?_⟩, hpc'.trans hpc, fun q hq => ?_,
    hsp'.trans hsp, fun x hx => ?_, hrun'.trans hrun, hreport'.trans hreport, hpixels'.trans hpixels⟩
  · exact hlow.trans (congrArg (· &&& 0x0F) hf)
  · obtain ⟨hqf, hqo⟩ := not_or.mp (List.mem_cons.not.mp hq)
    exact (hreg' q hqf).trans (hregs q hqo)
  · exact (congrArg (Memory.read · x) hmem').trans (hmem x hx)

/-! ## The bytes that SWAP and RES compute -/

theorem swapNibbles_toNat : ∀ v : Byte, (swapNibbles v).toNat = v.toNat % 16 * 16 + v.toNat / 16 := by decide

theorem zeroFlag_swapNibbles : ∀ v : Byte, zeroFlag (swapNibbles v) = decide (v = 0) := by decide

/-- R181: the mask has every bit but bit b. -/
theorem clearBit_getLsbD (b : BitVec 3) (v : Byte) (k : Nat) :
    (clearBit b v).getLsbD k = if k = b.toNat then false else v.getLsbD k := by
  have hmask : clearBit b v = v &&& ~~~BitVec.twoPow 8 b.toNat := by
    rw [← BitVec.allOnes_xor, BitVec.twoPow_eq]; rfl
  have hwide : v.getLsbD k = true → k < 8 := BitVec.lt_of_getLsbD
  by_cases hk : k = b.toNat
  · simp [hmask, hk, BitVec.getLsbD_twoPow]
  · simpa [hmask, hk, BitVec.getLsbD_twoPow, Ne.symm hk] using hwide

/-! ## The rows: form and length -/

theorem swap_rows : ∀ row ∈ Rows.swap,
    row.2 ≠ .reg .f ∧ form row.1 = .swapOperand row.2 ∧ (encode row.1).length = 2 := by decide

theorem res_rows : ∀ row ∈ Rows.res,
    form row.1 = .resOperand row.2.1 row.2.2 ∧ (encode row.1).length = 2 := by decide

end Sys2Proof.Machine

namespace Sys2Proof.Proofs

open Sys2Proof.Machine

/-- Settles O51: SWAP is a write of the operand and of the four flags. -/
theorem swapExchangesNibbles : Obligations.SwapExchangesNibbles := by
  unfold Obligations.SwapExchangesNibbles
  intro s row hrow v
  obtain ⟨ho, hform, hlen⟩ := swap_rows row hrow
  obtain ⟨hread, hflags, hpc, hrest⟩ :=
    advance_write8_setZNHC_spec s 2 ho (swapNibbles v) (zeroFlag (swapNibbles v)) false false false
  refine ⟨_, exec_of_form hform s, ?_, ?_, ?_, hrest⟩
  · exact (congrArg BitVec.toNat hread).trans (swapNibbles_toNat v)
  · exact zeroFlag_swapNibbles v ▸ hflags
  · exact hpc.trans (State.pcAfter_of_length hlen s).symm

/-- Settles O52: RES is a write of the operand with one bit cleared (`clearBit_getLsbD`). -/
theorem resClearsOneBit : Obligations.ResClearsOneBit := by
  unfold Obligations.ResClearsOneBit
  intro s row hrow
  obtain ⟨hform, hlen⟩ := res_rows row hrow
  obtain ⟨hread, hpc, hrest⟩ := advance_write8_spec s 2 row.2.2 (clearBit row.2.1 (s.read8 row.2.2))
  refine ⟨_, exec_of_form hform s, fun k => ?_, ?_, hrest⟩
  · rw [runForm, resOperand, hread, clearBit_getLsbD]
  · exact hpc.trans (State.pcAfter_of_length hlen s).symm

end Sys2Proof.Proofs
end

section
/-! PROOF of O56: every pixel of a render pass, bit by bit (48_tile_renderer.md R202 to R204). -/

namespace Sys2Proof.Machine

/-- R204: the low plane gives the low bit and the high plane the high bit, column 0 their bit 7. -/
theorem colourIndex_getLsbD (lo hi : Byte) (c : Nat) :
    (colourIndex lo hi c).getLsbD 0 = lo.getLsbD (7 - c) ∧ (colourIndex lo hi c).getLsbD 1 = hi.getLsbD (7 - c) := by
  constructor <;> simp [colourIndex]

/-- R202: the high plane is the byte after the low plane. -/
theorem tileRowAddr_add_one (cfg : Config) (i : Byte) (r : Nat) :
    tileRowAddr cfg i r + 1 = cfg.tileDataBase + BitVec.ofNat 16 (16 * i.toNat + 2 * r + 1) := by
  rw [BitVec.ofNat_add, ← BitVec.add_assoc]; rfl

end Sys2Proof.Machine

namespace Sys2Proof.Proofs

open Sys2Proof.Machine

/-- Settles O56: a pixel is `colourIndex` of its row's two bytes (`render_pixel_of_tile`). -/
theorem renderComputesEveryPixel : Obligations.RenderComputesEveryPixel := by
  unfold Obligations.RenderComputesEveryPixel
  intro cfg s
  refine ⟨rfl, fun tx ty r c htx hty hr hc => ?_⟩
  intro i lo hi
  have hpixel := render_pixel_of_tile cfg s htx hty hr hc
  rw [tileRowAddr_add_one] at hpixel
  rw [hpixel]
  exact colourIndex_getLsbD lo hi c

end Sys2Proof.Proofs
end

section
/-! PROOFS of O58 and O59: the scanline advance (60_exceptions.md R233) and the reset with an image (70_reset_and_hazards.md
R250, R251). -/

namespace Sys2Proof.Machine

/-! ## The scanline register -/

theorem nextScanline_toNat (v : Byte) : (nextScanline v).toNat = (v.toNat + 1) % 154 := by
  simp only [nextScanline, BitVec.toNat_ofNat]
  omega

theorem advanceScanline_readMem (s : State) (x : Word) :
    (advanceScanline s).readMem x = if x = scanlineAddr then nextScanline (s.readMem scanlineAddr) else s.readMem x :=
  s.writeMem_readMem scanlineAddr _ x

theorem advanceScanline_toNat (s : State) :
    ((advanceScanline s).readMem scanlineAddr).toNat = ((s.readMem scanlineAddr).toNat + 1) % 154 := by
  rw [advanceScanline_readMem, if_pos rfl, nextScanline_toNat]

/-- From a value below 154, `n` advances add `n` modulo 154. -/
theorem advanceScanline_iterate_toNat (s : State) (hs : (s.readMem scanlineAddr).toNat < 154) (n : Nat) :
    ((advanceScanline^[n] s).readMem scanlineAddr).toNat = ((s.readMem scanlineAddr).toNat + n) % 154 := by
  induction n with
  | zero => exact (Nat.mod_eq_of_lt hs).symm
  | succ n ih =>
    rw [Function.iterate_succ_apply', advanceScanline_toNat, ih]
    omega

/-! ## The image -/

/-- R251: bytes loaded from an address on, in a range that does not wrap, read at their offsets, and every other byte as
before. -/
theorem loadBytes_read (m : Memory) (addr : Nat) (bytes : List Byte) (hfit : addr + bytes.length ≤ 0x10000) (x : Word) :
    (loadBytes m addr bytes).read x =
      if addr ≤ x.toNat ∧ x.toNat < addr + bytes.length then bytes.getD (x.toNat - addr) 0 else m.read x := by
  induction bytes generalizing m addr with
  | nil => simp [loadBytes]
  | cons v rest ih =>
    rw [List.length_cons] at hfit ⊢
    rw [loadBytes, ih _ _ (by omega), Memory.read_write]
    have hkey : x = BitVec.ofNat 16 addr ↔ x.toNat = addr := by
      rw [← BitVec.toNat_inj, BitVec.toNat_ofNat, Nat.mod_eq_of_lt (by omega)]
    by_cases hx : x.toNat = addr
    · rw [if_neg (by omega), if_pos (hkey.mpr hx), if_pos (by omega), hx, Nat.sub_self, List.getD_cons_zero]
    · rw [if_neg (hkey.not.mpr hx)]
      by_cases hin : addr + 1 ≤ x.toNat ∧ x.toNat < addr + 1 + rest.length
      · have hoffset : x.toNat - addr = x.toNat - (addr + 1) + 1 := by omega
        rw [if_pos hin, if_pos (by omega), hoffset, List.getD_cons_succ]
      · rw [if_neg hin, if_neg (by omega)]

theorem imageCap_bytes_le (cap : ImageCap) : cap.bytes ≤ 0x10000 := by cases cap <;> decide

end Sys2Proof.Machine

namespace Sys2Proof.Proofs

open Sys2Proof.Machine

/-- Settles O58: one advance adds 1 modulo 154, so 154 of them add nothing. -/
theorem scanlineAdvancesModulo154 : Obligations.ScanlineAdvancesModulo154 := by
  unfold Obligations.ScanlineAdvancesModulo154
  constructor
  · intro s
    refine ⟨advanceScanline_toNat s, fun x hx => ?_, rfl⟩
    exact (advanceScanline_readMem s x).trans (if_neg (List.mem_singleton.not.mp hx))
  · intro s hs
    apply BitVec.eq_of_toNat_eq
    have hround := advanceScanline_iterate_toNat s hs 154
    rw [Nat.add_mod_right] at hround
    exact hround.trans (Nat.mod_eq_of_lt hs)

/-- Settles O59: the image's first IMAGE_CAP bytes are loaded from 0x0000 on, over the zeros of reset. -/
theorem resetLoadsTheImage : Obligations.ResetLoadsTheImage := by
  unfold Obligations.ResetLoadsTheImage
  intro cfg image
  refine ⟨fun x => ?_, rfl⟩
  have hcap := imageCap_bytes_le cfg.imageCap
  have hload := loadBytes_read State.reset.mem 0 (image.take cfg.imageCap.bytes) (by rw [List.length_take]; omega) x
  refine hload.trans ?_
  simp only [List.length_take, Nat.zero_le, true_and, Nat.zero_add, Nat.lt_min, Nat.sub_zero]
  by_cases hin : x.toNat < cfg.imageCap.bytes ∧ x.toNat < image.length
  · rw [if_pos hin, if_pos hin.symm, List.getD_eq_getElem?_getD, List.getElem?_take_of_lt hin.1]
    rfl
  · rw [if_neg hin, if_neg (mt And.symm hin)]
    rfl

end Sys2Proof.Proofs
end


section
/-! PROOFS of O19 and O21: pairs as views of their halves (10_state.md R21), and memories that read alike (20_memory.md R41;
log 11). -/

namespace Sys2Proof.Machine

/-! ## The bytes of a word as numbers -/

theorem hiByte_eq_ofNat (v : Word) : hiByte v = BitVec.ofNat 8 (v.toNat / 0x100) := by
  apply BitVec.eq_of_toNat_eq
  rw [hiByte_toNat, BitVec.toNat_ofNat]
  omega

theorem loByte_eq_ofNat (v : Word) : loByte v = BitVec.ofNat 8 v.toNat := by
  apply BitVec.eq_of_toNat_eq
  rw [loByte_toNat, BitVec.toNat_ofNat]

/-! ## Canonical stores -/

section Sparse
variable {w : Nat}

theorem Sparse.get_cons_self (k : Nat) (v : BitVec w) (t : List (Nat × BitVec w)) :
    Sparse.get ((k, v) :: t) k = v := if_pos rfl

theorem Sparse.get_cons_of_ne {k a : Nat} (h : k ≠ a) (v : BitVec w) (t : List (Nat × BitVec w)) :
    Sparse.get ((k, v) :: t) a = Sparse.get t a := if_neg h

variable {bound lo : Nat}

/-- A key at or above the bound reads as zero. -/
theorem Sparse.get_of_ge {m : List (Nat × BitVec w)} (hm : Sparse.wfFrom bound lo m = true) {a : Nat} (ha : bound ≤ a) :
    Sparse.get m a = 0 := by
  induction m generalizing lo with
  | nil => rfl
  | cons p t ih =>
    obtain ⟨k, v⟩ := p
    obtain ⟨-, hk, -, ht⟩ := (Sparse.wfFrom_cons ..).mp hm
    rw [Sparse.get_cons_of_ne (by omega)]
    exact ih ht

/-- A canonical store that reads zero everywhere lists nothing. -/
theorem Sparse.eq_nil_of_get_eq_zero {m : List (Nat × BitVec w)} (hm : Sparse.wfFrom bound lo m = true)
    (h : ∀ a, Sparse.get m a = 0) : m = [] := by
  cases m with
  | nil => rfl
  | cons p t =>
    obtain ⟨k, v⟩ := p
    obtain ⟨-, -, hv, -⟩ := (Sparse.wfFrom_cons ..).mp hm
    exact absurd ((Sparse.get_cons_self k v t).symm.trans (h k)) hv

/-- The first key is no larger than any key at which the store does not read zero. -/
theorem Sparse.head_le {k : Nat} {v : BitVec w} {t : List (Nat × BitVec w)}
    (hm : Sparse.wfFrom bound lo ((k, v) :: t) = true) {a : Nat} (ha : Sparse.get ((k, v) :: t) a ≠ 0) : k ≤ a := by
  obtain ⟨-, hk⟩ := (Sparse.wfFrom_cons ..).mp hm
  have hfrom : Sparse.wfFrom bound k ((k, v) :: t) = true := (Sparse.wfFrom_cons ..).mpr ⟨Nat.le_refl k, hk⟩
  exact Nat.le_of_not_lt fun hlt => ha (Sparse.get_of_lt hfrom hlt)

/-- Canonical stores that read alike are equal: their first keys are each at most the other, and the tails read alike. -/
theorem Sparse.eq_of_get_eq {m m' : List (Nat × BitVec w)} (hm : Sparse.wfFrom bound lo m = true)
    (hm' : Sparse.wfFrom bound lo m' = true) (h : ∀ a, Sparse.get m a = Sparse.get m' a) : m = m' := by
  induction m generalizing lo m' with
  | nil => exact (Sparse.eq_nil_of_get_eq_zero hm' fun a => (h a).symm).symm
  | cons p t ih =>
    obtain ⟨k, v⟩ := p
    cases m' with
    | nil => exact Sparse.eq_nil_of_get_eq_zero hm h
    | cons p' t' =>
      obtain ⟨k', v'⟩ := p'
      obtain ⟨-, -, hv, ht⟩ := (Sparse.wfFrom_cons ..).mp hm
      obtain ⟨-, -, hv', ht'⟩ := (Sparse.wfFrom_cons ..).mp hm'
      have hle : k ≤ k' := Sparse.head_le hm (by rwa [h, Sparse.get_cons_self])
      have hge : k' ≤ k := Sparse.head_le hm' (by rwa [← h, Sparse.get_cons_self])
      obtain rfl := Nat.le_antisymm hle hge
      have hval : v = v' := by simpa only [Sparse.get_cons_self] using h k
      have htail : t = t' := by
        refine ih ht ht' fun a => ?_
        by_cases ha : k = a
        · subst ha
          rw [Sparse.get_of_lt ht (Nat.lt_succ_self k), Sparse.get_of_lt ht' (Nat.lt_succ_self k)]
        · have hget := h a
          rwa [Sparse.get_cons_of_ne ha, Sparse.get_cons_of_ne ha] at hget
      rw [hval, htail]

end Sparse

end Sys2Proof.Machine

namespace Sys2Proof.Proofs

open Sys2Proof.Machine

/-- Settles O19: a pair is the word of its halves, and writing either half is a write of one field. -/
theorem pairsAreViewsOfTheirHalves : Obligations.PairsAreViewsOfTheirHalves := by
  unfold Obligations.PairsAreViewsOfTheirHalves
  intro s v u row hrow
  rw [← hiByte_eq_ofNat, ← loByte_eq_ofNat]
  simp only [List.mem_cons, List.not_mem_nil, or_false] at hrow
  rcases hrow with rfl | rfl | rfl | rfl <;> exact ⟨word_toNat _ _, rfl, rfl, rfl, rfl, rfl⟩

/-- Settles O21: the addresses are all the keys that a canonical memory can list (`Sparse.eq_of_get_eq`). -/
theorem equalReadsMeanEqualMemories : Obligations.EqualReadsMeanEqualMemories := by
  unfold Obligations.EqualReadsMeanEqualMemories
  intro m m' hm hm' hread
  refine Sparse.eq_of_get_eq hm hm' fun a => ?_
  by_cases ha : a < 0x10000
  · have hx := hread (BitVec.ofNat 16 a)
    rwa [Memory.read, Memory.read, BitVec.toNat_ofNat, Nat.mod_eq_of_lt ha] at hx
  · rw [Sparse.get_of_ge hm (Nat.le_of_not_lt ha), Sparse.get_of_ge hm' (Nat.le_of_not_lt ha)]

end Sys2Proof.Proofs
end

section
/-! PROOFS of O1, O28 and O53 to O55: the reset values (10_state.md R38), LD SP,HL (40_loads.md R105), NOP, STOP, HALT, EI and DI
(46_control_stubs.md R190 to R194). -/

namespace Sys2Proof.Proofs

open Sys2Proof.Machine

/-- Settles O1: each value of R38, the registers one by one. -/
theorem resetIsZeroExceptPc : Obligations.ResetIsZeroExceptPc := by
  unfold Obligations.ResetIsZeroExceptPc
  refine ⟨fun r => ?_, rfl, rfl, fun _ => rfl, rfl, rfl, fun _ _ => rfl⟩
  cases r <;> rfl

/-- Settles O28: LD SP,HL is a write of SP, which has no halves. -/
theorem loadSpFromHl : Obligations.LoadSpFromHl := by
  unfold Obligations.LoadSpFromHl
  intro s
  obtain ⟨t, ht, hsp, hpc, hregs, -, hrest⟩ := exec_setReg16_spec (p := .sp) (exec_of_form (i := .ldSpHl) rfl s) rfl
  exact ⟨t, ht, hsp, hpc, hregs, hrest⟩

/-- Settles O53: both only move PC past their byte. -/
theorem nopAndStopOnlyMovePc : Obligations.NopAndStopOnlyMovePc := by
  unfold Obligations.NopAndStopOnlyMovePc
  intro s
  rw [List.forall_mem_cons, List.forall_mem_singleton]
  constructor
  · exact exec_advance_spec (i := .nop) (exec_of_form rfl s) rfl
  · exact exec_advance_spec (i := .stop) (exec_of_form rfl s) rfl

/-- Settles O54: the move past the byte and the entry into Halted. -/
theorem haltEntersHalted : Obligations.HaltEntersHalted := by
  unfold Obligations.HaltEntersHalted
  intro s
  have hexec : exec .halt s = .next ((s.advance 1).enterHalted (.haltInstruction s.pc)) := exec_of_form rfl s
  refine ⟨_, hexec, rfl, rfl, rfl, fun q _ => ?_, rfl, fun _ => rfl, rfl⟩
  simp

/-- Settles O55: both are a store of one byte, at the IE byte. -/
theorem interruptToggleWritesTheIeByte : Obligations.InterruptToggleWritesTheIeByte := by
  unfold Obligations.InterruptToggleWritesTheIeByte
  intro s
  rw [List.forall_mem_cons, List.forall_mem_singleton]
  constructor
  · exact exec_writeMem_spec (i := .ei) (x := ieAddr) (exec_of_form rfl s) rfl
  · exact exec_writeMem_spec (i := .di) (x := ieAddr) (exec_of_form rfl s) rfl

end Sys2Proof.Proofs
end

section
/-! PROOF of O17: the operand fields of the opcodes (30_encoding.md R62 to R65, R129). An opcode does not depend on the
immediate after it, so a fact about the opcodes of a list of rows is decided on the same rows with the immediate 0
(`forall_opcode`). -/

namespace Sys2Proof.Machine

/-- The first byte of an instruction (R60). -/
def opcodeOf (i : Instr) : Byte := (encode i).getD 0 0

/-- A fact about opcodes and operands holds of every row if it holds of the rows of a list with the same ones. -/
theorem forall_opcode {β : Type} {P : Byte → β → Prop} {rows closed : List (Instr × β)}
    (hrows : rows.map (fun row => (opcodeOf row.1, row.2)) = closed.map (fun row => (opcodeOf row.1, row.2)))
    (hall : ∀ row ∈ closed, P (opcodeOf row.1) row.2) : ∀ row ∈ rows, P (opcodeOf row.1) row.2 := by
  have hmap : ∀ c ∈ rows.map (fun row => (opcodeOf row.1, row.2)), P c.1 c.2 := by
    rw [hrows]
    exact List.forall_mem_map.mpr hall
  exact List.forall_mem_map.mp hmap

/-- LD r,n, INC r, DEC r: the field y is the register code. -/
theorem regRows_fieldY (n : Byte) :
    ∀ row ∈ Rows.ldRegImm n ++ Rows.incReg ++ Rows.decReg, reg8 (fieldY (opcodeOf row.1)) = .reg row.2 :=
  forall_opcode (closed := Rows.ldRegImm 0 ++ Rows.incReg ++ Rows.decReg) (P := fun op r => reg8 (fieldY op) = .reg r) rfl
    (by decide)

/-- LD rr,nn, INC rr, DEC rr, ADD HL,rr: the field p is the code of rp (R64). -/
theorem reg16Rows_fieldP (nn : Word) :
    ∀ row ∈ Rows.ldReg16Imm nn ++ Rows.incReg16 ++ Rows.decReg16 ++ Rows.addHl,
      rp ((opcodeOf row.1).extractLsb' 4 2) = row.2 :=
  forall_opcode (closed := Rows.ldReg16Imm 0 ++ Rows.incReg16 ++ Rows.decReg16 ++ Rows.addHl)
    (P := fun op p => rp (op.extractLsb' 4 2) = p) rfl (by decide)

/-- JP, JR, CALL, RET: the low bits of y are the condition's code (R65). -/
theorem condRows_cc (e : Byte) (nn : Word) :
    ∀ row ∈ Rows.jpIf nn ++ Rows.jrIf e ++ Rows.callIf nn ++ Rows.retIf,
      condReads (cc ((opcodeOf row.1).extractLsb' 3 2)) = row.2 :=
  forall_opcode (closed := Rows.jpIf 0 ++ Rows.jrIf 0 ++ Rows.callIf 0 ++ Rows.retIf)
    (P := fun op reads => condReads (cc (op.extractLsb' 3 2)) = reads) rfl (by decide)

/-! ## The sources of the ALU (R129) -/

/-- What of a source a register code names: nothing of an immediate. -/
def Source.coded : Source → Option Operand8
  | .reg r => some (.reg r)
  | .atHl => some .atHl
  | .imm _ => none

/-- What of a source stands in the bytes after the opcode: the immediate. -/
def Source.immBytes : Source → List Byte
  | .imm n => [n]
  | _ => []

def aluRows (n : Byte) : List (Instr × Source) :=
  Rows.addA n ++ Rows.subA n ++ Rows.andA n ++ Rows.orA n ++ Rows.xorA n ++ Rows.cpA n

theorem aluRows_fieldZ (n : Byte) :
    ∀ row ∈ aluRows n, ∀ o ∈ row.2.coded, reg8 (fieldZ (opcodeOf row.1)) = o := by
  have hcoded : ∀ row ∈ (aluRows n).map (Prod.map id Source.coded), ∀ o ∈ row.2, reg8 (fieldZ (opcodeOf row.1)) = o :=
    forall_opcode (closed := (aluRows 0).map (Prod.map id Source.coded))
      (P := fun op coded => ∀ o ∈ coded, reg8 (fieldZ op) = o) rfl (by decide)
  exact List.forall_mem_map.mp hcoded

theorem aluRows_encode (n : Byte) : ∀ row ∈ aluRows n, encode row.1 = opcodeOf row.1 :: row.2.immBytes :=
  List.map_inj_left.mp rfl

end Sys2Proof.Machine

namespace Sys2Proof.Proofs

open Sys2Proof.Machine

/-- Settles O17: the rows with an immediate by the lemmas above, the closed ones opcode by opcode. -/
theorem operandFieldsNameTheOperands : Obligations.OperandFieldsNameTheOperands := by
  unfold Obligations.OperandFieldsNameTheOperands
  intro n e nn op sub p k holds
  refine ⟨regRows_fieldY n, ?_, ?_, ?_, ?alu, reg16Rows_fieldP nn, ?_, ?cond, ?_, ?_, ?_⟩
  case alu =>
    rintro ⟨i, src⟩ hrow
    cases src with
    | reg r => exact aluRows_fieldZ n _ hrow _ rfl
    | atHl => exact aluRows_fieldZ n _ hrow _ rfl
    | imm m => exact aluRows_encode n _ hrow
  case cond =>
    intro row hrow s
    rw [← condRows_cc e nn row hrow]
    exact s.cond_iff _
  all_goals decide

end Sys2Proof.Proofs
end
